-- ==== Sys2Proof/Word.lean ====
section
/-! DEFINITION. The plain data every file speaks in: bytes, the eight-fold tuple for things held once per coil,
tags, and the integer arithmetic of the Conventions of spec/00_scope.md (division rounds down; saturation). -/

namespace Sys2Proof

/-- One byte of a frame payload or of the setup image. -/
abbrev Byte := BitVec 8

/-- Local coil index 0..7: 4 × local column + row (00_scope, Coil indexing). -/
abbrev CoilIx := Fin 8

/-- A row of the coil field, front to back. -/
abbrev Row := Fin 4

/-- A module position 0..7. -/
abbrev Position := Fin 8

/-- A station's position on the zone link: 0..7 modules, 8..15 panels. -/
abbrev LinkPos := Fin 16

/-- Eight like things, one per local coil (or one per module position). -/
structure Eight (α : Type) where
  c0 : α
  c1 : α
  c2 : α
  c3 : α
  c4 : α
  c5 : α
  c6 : α
  c7 : α
  deriving DecidableEq, Repr

/-- The thing that index `i` names. -/
def Eight.get {α : Type} (a : Eight α) (i : Fin 8) : α :=
  match i.val with
  | 0 => a.c0
  | 1 => a.c1
  | 2 => a.c2
  | 3 => a.c3
  | 4 => a.c4
  | 5 => a.c5
  | 6 => a.c6
  | _ => a.c7

/-- The tuple whose entry at `i` is `f i`. -/
def Eight.ofFn {α : Type} (f : Fin 8 → α) : Eight α :=
  ⟨f 0, f 1, f 2, f 3, f 4, f 5, f 6, f 7⟩

/-- The same thing eight times. -/
def Eight.fill {α : Type} (x : α) : Eight α := ⟨x, x, x, x, x, x, x, x⟩

/-- Every entry through `f`, which also sees the index. -/
def Eight.mapIx {α β : Type} (f : Fin 8 → α → β) (a : Eight α) : Eight β :=
  Eight.ofFn fun i => f i (a.get i)

/-- Every entry through `f`. -/
def Eight.map {α β : Type} (f : α → β) (a : Eight α) : Eight β :=
  Eight.ofFn fun i => f (a.get i)

/-- Entry `i` through `f`, the others as they stand. -/
def Eight.update {α : Type} (a : Eight α) (i : Fin 8) (f : α → α) : Eight α :=
  Eight.ofFn fun j => if j = i then f (a.get j) else a.get j

/-- Entry `i` set to `x`. -/
def Eight.set {α : Type} (a : Eight α) (i : Fin 8) (x : α) : Eight α := a.update i fun _ => x

/-- The eight entries in index order. -/
def Eight.toList {α : Type} (a : Eight α) : List α :=
  [a.c0, a.c1, a.c2, a.c3, a.c4, a.c5, a.c6, a.c7]

/-- The sum of eight naturals. -/
def Eight.sum (a : Eight Nat) : Nat := a.toList.sum

/-- The eight indices in order. -/
def allCoils : List CoilIx := [0, 1, 2, 3, 4, 5, 6, 7]

/-- The four rows in order. -/
def allRows : List Row := [0, 1, 2, 3]

/-- The left-column coil of a row: coil r. -/
def leftCoil (r : Row) : CoilIx := ⟨r.val, by omega⟩

/-- The right-column coil of a row: coil r + 4. -/
def rightCoil (r : Row) : CoilIx := ⟨r.val + 4, by omega⟩

/-- A tag p.s: creator position and serial (R21). Serial 0 names no pan: no table of the module holds it. -/
structure Tag where
  creator : Fin 8
  serial  : Fin 4096
  deriving DecidableEq, Repr

/-- The tag's code of R151 with bit 15 clear: bits 14..12 creator, bits 11..0 serial. -/
def Tag.code (t : Tag) : Nat := t.creator.val * 4096 + t.serial.val

/-- "Lower tag": creator first, serial second, which is the order of the codes (R21, R151). -/
def Tag.lower (a b : Tag) : Bool := a.code < b.code

/-- `n` brought within `lo..hi`. -/
def clampNat (lo hi n : Nat) : Nat := if n < lo then lo else if hi < n then hi else n

/-- One up, stopping at `top` (a saturating counter, 00_scope, Arithmetic). -/
def satSucc (top n : Nat) : Nat := if n < top then n + 1 else top

/-- The quotient rounded up. -/
def ceilDiv (a b : Nat) : Nat := (a + b - 1) / b

/-- The quotient rounded half up: floor((2a + b) / 2b). -/
def halfUpDiv (a b : Nat) : Nat := (2 * a + b) / (2 * b)

end Sys2Proof
end

