-- ==== Sys2Proof/Config.lean ====
section
/-! DEFINITION. What the device fixes for good (the numbers its rules name), and the one value its rules leave open. -/

namespace Sys2Proof.Config

/-- R23: the pan table holds up to 4 fragments. -/
def panTableSize : Nat := 4
/-- R24: the lifted list holds up to 4 entries. -/
def liftedListSize : Nat := 4
/-- R46: the setting cache holds up to 8 entries. -/
def cacheSize : Nat := 8
/-- R141: the transmit queue holds up to 12 entries. -/
def queueSize : Nat := 12
/-- R147: the peer fragment table holds up to 16 entries. -/
def peerTableSize : Nat := 16
/-- R36: second ticks of grace a new lifted entry gets. -/
def graceTicks : Nat := 8
/-- R3: ticks of the 16 MHz counter within which a mark is noise. -/
def markGuard : Nat := 100
/-- R4: the full cycle that ends a probe. -/
def fullCount : Nat := 31
/-- R13, R106: the lowest drive frequency and floor, 20.5 kHz. -/
def lowestFrequency : Nat := 41
/-- R13, R97: the highest drive frequency and floor, 70 kHz. -/
def highestFrequency : Nat := 140
/-- R29, R32: the coverage from which an edge counts across a module boundary. -/
def edgeThreshold : Nat := 24
/-- R14: the coverage from which a covered coil stays covered. -/
def keepThreshold : Nat := 16
/-- R96: the shortfall and the cut loss saturate here. -/
def shortfallTop : Nat := 4095
/-- R174: the read command and the two address bytes the module sends on SMO at the start of the setup memory read. -/
def readCommand : List Byte := [0x03, 0x00, 0x00]
/-- R149: the five link counts saturate here. -/
def countTop : Nat := 255

/-- FREE VALUE (log entry 5). R109 steps the frequency of role LOST "on n*, taken over assigned coils that are not held",
and states no n* when every assigned coil is held. The n-th time that happens, n* is this: nothing constrains it. -/
opaque freeNStar : Nat → Nat

end Sys2Proof.Config
end

