-- ==== Sys2Proof/Syntax.lean ====
section
/-! DEFINITION. The commands of the block: one constructor per row of spec/opcode_table.json, in the table's order, with
the operands the row's rules read. A command is one event at the module, whole and indivisible. -/

namespace Sys2Proof

/-- The three reset causes (R172). -/
inductive ResetCause where
  | powerOn
  | resetPin
  | supplyDip
  deriving DecidableEq, Repr

/-- A command: one row of spec/opcode_table.json. Times of the mains are µs of the timebase (R84); times of a probe are ticks
of the 16 MHz counter (R3); `count` is the value the 64 MHz drive counter reaches (R91). -/
inductive Instr where
  /-- RESET (R172): the cause that arrives. -/
  | reset (cause : ResetCause)
  /-- END_OF_RESET (R172, R173): the straps POS2 POS1 POS0 as read. -/
  | endOfReset (straps : BitVec 3)
  /-- SETUP_READ_END (R174, R175): the 128 bytes clocked in, address 0 first. -/
  | setupReadEnd (image : List Byte)
  /-- LOADING_EXIT (R177). -/
  | loadingExit
  /-- ZERO_CROSSING (R85, R86): the time of the crossing on ZX. -/
  | zeroCrossing (time : Nat)
  /-- SYNTHETIC_BOUNDARY (R87): the acceptance span ends with no crossing. -/
  | syntheticBoundary
  /-- MAINS_LOST_SET (R88). -/
  | mainsLostSet
  /-- MAINS_LOST_CLEAR (R88). -/
  | mainsLostClear
  /-- WINDOW_START (R89). -/
  | windowStart
  /-- FAULT_END (R121) of one coil. -/
  | faultEnd (coil : CoilIx)
  /-- PEER_FRAGMENT_AGE_OUT (R148) of the entry of a source and tag. -/
  | peerFragmentAgeOut (source : Position) (tag : Tag)
  /-- LINK_BLOCKED_SET (R145). -/
  | linkBlockedSet
  /-- TEMPERATURE_READINGS (R125): the nine temperature codes. -/
  | temperatureReadings (coilCodes : Eight (BitVec 12)) (sinkCode : BitVec 12)
  /-- PROBE_PULSE_END (R2): the 16 MHz counter at the compare match. -/
  | probePulseEnd (time : Nat)
  /-- RING_MARK (R3): the ring detector (0 is RD0) and the 16 MHz counter at the mark. -/
  | ringMark (detector : Fin 2) (time : Nat)
  /-- RING_DECAYED (R4) on one ring detector. -/
  | ringDecayed (detector : Fin 2)
  /-- TIME_LIMIT (R4) on one ring detector. -/
  | timeLimit (detector : Fin 2)
  /-- ALLOCATION_POINT (R65). -/
  | allocationPoint
  /-- SECOND_TICK (R90). -/
  | secondTick
  /-- CACHE_EXPIRY (R52) of one tag's entry. -/
  | cacheExpiry (tag : Tag)
  /-- STEP_END (R56) of the program of one tag's fragment. -/
  | stepEnd (tag : Tag)
  /-- GRACE_EXPIRY (R43) of one tag's lifted entry. -/
  | graceExpiry (tag : Tag)
  /-- PANEL_ABSENCE (R165). -/
  | panelAbsence
  /-- CURRENT_SAMPLE (R116): the coil, the drive counter's value and the signed sample in 25 mA units. -/
  | currentSample (coil : CoilIx) (count : Nat) (sample : BitVec 12)
  /-- BUS_CONVERSION (R115): the result in 0.5 V units. -/
  | busConversion (value : BitVec 10)
  /-- OVERVOLTAGE_DRIVE_RELEASE (R169). -/
  | overvoltageDriveRelease
  /-- STOP_LINE_ASSERTION (R166): another station drives the line. -/
  | stopLineAssertion
  /-- STOP_LINE_RELEASE (R168): no other station drives the line any longer. -/
  | stopLineRelease
  /-- LINE_IDLE (R133): 11 recessive bits have been seen. -/
  | lineIdle
  /-- CONTENTION_LOST (R134). -/
  | contentionLost
  /-- CONTENTION_WON (R134). -/
  | contentionWon
  /-- COLLISION (R135). -/
  | collision
  /-- OWN_FRAME_END (R136): whether the acknowledge and the reject slot were read dominant. -/
  | ownFrameEnd (acknowledged rejected : Bool)
  /-- ALONE_SET (R136). -/
  | aloneSet
  /-- FRAME_REJECT (R138): the bits on the line from the start mark on (true is recessive, 1). -/
  | frameReject (bits : List Bool)
  /-- PANEL_STATE (R164): a frame received whole with a correct check; its source and payload. -/
  | panelState (source : LinkPos) (payload : List Byte)
  /-- PAN_SETTING (R47). -/
  | panSetting (source : LinkPos) (payload : List Byte)
  /-- FRAGMENT (R147). -/
  | fragment (source : LinkPos) (payload : List Byte)
  /-- MODULE_STATUS (R146). -/
  | moduleStatus (source : LinkPos) (payload : List Byte)
  /-- PAN_NOTICE (R139). -/
  | panNotice (source : LinkPos) (payload : List Byte)
  /-- POSITION_CLASH (R140): a correct frame from the module's own position that it did not send. -/
  | positionClash
  /-- DRIVE_COUNTER_MATCH (R92): the value the drive counter reaches. -/
  | driveCounterMatch (count : Nat)
  /-- IGNORED_KIND_FRAME (R139): a frame of kind 0 or 6..15; its kind and source. -/
  | ignoredKindFrame (kind : BitVec 4) (source : LinkPos)
  deriving DecidableEq, Repr

end Sys2Proof
end

