-- ==== Sys2Proof/WellFormed.lean ====
section
/-! DEFINITION. What the line, the SPI port and the tables of the spec let a command's operands be. `exec` is total on
ill-formed commands too (log entry 6); the statements that need these bounds name them. -/

namespace Sys2Proof

/-- A length field is 6 bits, so a frame carries 0..63 payload bytes (Table 8-1). -/
def payloadFits (payload : List Byte) : Bool := payload.length ≤ 63

/-- The setup image is 128 bytes (R174). -/
def imageFits (image : List Byte) : Bool := image.length = 128

/-- The kinds a receiver ignores: 0 and 6..15 (R139). -/
def kindIgnored (kind : BitVec 4) : Bool := kind.toNat = 0 || 6 ≤ kind.toNat

/-- A tag names a pan: its serial is 1..4095 (R21). -/
def Tag.named (t : Tag) : Bool := 1 ≤ t.serial.val

/-- A frame begins with its start mark, which is dominant (Table 8-1). -/
def startsDominant (bits : List Bool) : Bool := bits.head? = some false

/-- The check on a command's operands. -/
def Instr.wellFormed : Instr → Bool
  | .reset _ => true
  | .endOfReset _ => true
  | .setupReadEnd image => imageFits image
  | .loadingExit => true
  | .zeroCrossing _ => true
  | .syntheticBoundary => true
  | .mainsLostSet => true
  | .mainsLostClear => true
  | .windowStart => true
  | .faultEnd _ => true
  | .peerFragmentAgeOut _ tag => tag.named
  | .linkBlockedSet => true
  | .temperatureReadings _ _ => true
  | .probePulseEnd _ => true
  | .ringMark _ _ => true
  | .ringDecayed _ => true
  | .timeLimit _ => true
  | .allocationPoint => true
  | .secondTick => true
  | .cacheExpiry tag => tag.named
  | .stepEnd tag => tag.named
  | .graceExpiry tag => tag.named
  | .panelAbsence => true
  | .currentSample _ _ _ => true
  | .busConversion _ => true
  | .overvoltageDriveRelease => true
  | .stopLineAssertion => true
  | .stopLineRelease => true
  | .lineIdle => true
  | .contentionLost => true
  | .contentionWon => true
  | .collision => true
  | .ownFrameEnd _ _ => true
  | .aloneSet => true
  | .frameReject bits => startsDominant bits
  | .panelState _ payload => payloadFits payload
  | .panSetting _ payload => payloadFits payload
  | .fragment _ payload => payloadFits payload
  | .moduleStatus _ payload => payloadFits payload
  | .panNotice _ payload => payloadFits payload
  | .positionClash => true
  | .driveCounterMatch _ => true
  | .ignoredKindFrame kind _ => kindIgnored kind

end Sys2Proof
end

