-- ==== Sys2Proof/Machine/State.lean ====
section
/-! DEFINITION. Everything the spec gives one FZ8 module, block by block (Table 0-1), as plain data, with its value after
reset. "Absent" is the spec's own value wherever a field is an Option. -/

namespace Sys2Proof.Machine

open Sys2Proof

/-! ### Timebase (Table 5-1) -/

/-- Mains class (R84). -/
inductive MainsClass where
  | unknown
  | hz50
  | hz60
  deriving DecidableEq, Repr

/-- Table 5-1, and the events a boundary has raised that have not been taken yet (R89, R90; log entry 3). -/
structure Timebase where
  mainsClass : MainsClass
  /-- Crossings gathered toward the class measurement (R85). -/
  measCount : Nat
  /-- Time of the first crossing of the measurement. -/
  measFirst : Nat
  /-- Time of the last accepted crossing of the measurement. -/
  measPrev : Nat
  /-- Measured period, µs, or absent. -/
  period : Option Nat
  /-- Reference time, µs, or absent. -/
  reference : Option Nat
  syntheticRun : Nat
  acceptedRun : Nat
  mainsLost : Bool
  /-- Half-cycle counter: the slot that the current half-cycle is. -/
  halfCycle : Fin 16
  /-- Second-tick counter. -/
  tickCount : Nat
  /-- A boundary has raised the window start, and it has not been taken. -/
  windowStartRaised : Bool
  /-- A boundary has raised the allocation point, and it has not been taken. -/
  allocationRaised : Bool
  /-- A boundary has raised a second tick, and it has not been taken. -/
  secondTickRaised : Bool
  deriving DecidableEq, Repr

/-! ### Probe Engine (R1 to R7) -/

/-- Where a capture unit stands in its coil's probe. -/
inductive CapturePhase where
  | off
  | pulse
  | ringing
  | ended
  deriving DecidableEq, Repr

/-- One ring capture unit (R3, R4). The ring count K is `(marks - 1) / 2`. -/
structure Capture where
  phase : CapturePhase
  /-- 16 MHz counter at the end of the pulse. -/
  pulseEnd : Nat
  /-- Time t0 of mark 0. -/
  firstMark : Nat
  /-- Time of the last accepted mark. -/
  lastMark : Nat
  /-- Number of accepted marks. -/
  marks : Nat
  /-- Time of the mark that ended the last counted full cycle. -/
  cycleEnd : Nat
  deriving DecidableEq, Repr

/-- Sweep progress (none is IDLE, else the pair in flight) and the two capture units. -/
structure Probe where
  sweep : Option (Fin 4)
  /-- The unit on RD0: the first coil of the pair. -/
  unit0 : Capture
  /-- The unit on RD1: the second coil of the pair. -/
  unit1 : Capture
  /-- The compare value of the pulse, 32..192 ticks, set as a pair starts (R2). -/
  pulseTicks : Nat
  deriving DecidableEq, Repr

/-! ### Coil Table (Table 1-2) -/

inductive Presence where
  | absent
  | pan
  | nonferrous
  deriving DecidableEq, Repr

/-- The coil states of R9. The state is no field: `coilState` derives it. -/
inductive CoilState where
  | idle
  | covered
  | heating
  | blocked
  | hot
  | faulted
  | held
  deriving DecidableEq, Repr

/-- A coil record (Table 1-2). -/
structure Coil where
  fitted : Bool
  presence : Presence
  coverage : Nat
  floor : Nat
  temperature : Option Nat
  overheat : Bool
  sensorFault : Bool
  recovery : Nat
  faultTimer : Nat
  faultRetries : Nat
  liftSuspected : Bool
  held : Bool
  heating : Bool
  effectiveMax : Nat
  /-- The window in progress held a driven half-cycle of the coil (R121, clean window). -/
  drivenInWindow : Bool
  /-- The window in progress held an OVERCURRENT of the coil (R121, clean window). -/
  overcurrentInWindow : Bool
  deriving DecidableEq, Repr

/-! ### Pan Tracker and Setting Store (Tables 2-1, 2-2, 3-1, 3-2, 3-3) -/

/-- A program state (Table 3-3). An unloaded loop counter is none. -/
structure Program where
  revision : Byte
  step : Nat
  remaining : Nat
  loop : Option Nat
  done : Bool
  deriving DecidableEq, Repr

inductive Origin where
  | new
  | tracked
  | carried
  | resumed
  deriving DecidableEq, Repr

/-- A fragment of the pan table (Table 2-1), with the edge coverages its last update summed (frozen with it in STOPPED, R45)
and its share S_f (R64). -/
structure Fragment where
  tag : Tag
  coils : List CoilIx
  area : Nat
  /-- Coverage of each coil of the set at the last update, 0 outside the set: entry r is the left edge, r + 4 the right. -/
  edge : Eight Nat
  origin : Origin
  program : Option Program
  home : Bool
  contact : Bool
  panContact : Bool
  share : Nat
  deriving DecidableEq, Repr

inductive LiftCause where
  | lifted
  | merged
  deriving DecidableEq, Repr

/-- A lifted entry (Table 2-2). -/
structure LiftedEntry where
  tag : Tag
  footprint : List CoilIx
  program : Option Program
  grace : Nat
  wasHome : Bool
  cause : LiftCause
  confirmed : Bool
  deriving DecidableEq, Repr

/-- The Pan Tracker: pan table, lifted list (oldest first), tag serial counter (R21 to R24). -/
structure Tracker where
  pans : List Fragment
  lifted : List LiftedEntry
  serial : Fin 4096
  deriving DecidableEq, Repr

inductive ReportMode where
  | eachStep
  | endOnly
  deriving DecidableEq, Repr

/-- The loop of a step: back-index and count (Table 3-2). -/
structure StepLoop where
  back : Nat
  count : Nat
  deriving DecidableEq, Repr

/-- A step record (Table 3-2). -/
structure Step where
  target : Nat
  duration : Nat
  loop : Option StepLoop
  deriving DecidableEq, Repr

/-- A setting cache entry (Table 3-1). The step count is the length of the steps. -/
structure CacheEntry where
  tag : Tag
  revision : Byte
  mode : ReportMode
  steps : List Step
  age : Nat
  deriving DecidableEq, Repr

/-! ### Power Allocator (Table 4-1; the fragment shares stand in the fragments) -/

structure Allocator where
  rawDemand : Eight Nat
  demand : Eight Nat
  demandSum : Nat
  sinkCap : Nat
  moduleDemand : Nat
  moduleMax : Nat
  phaseSum : Nat
  moduleGrant : Nat
  grant : Eight Nat
  assigned : Eight Bool
  /-- A tracking update since the entry to RUN has joined a fragment to a program; until then every figure stays 0 (R66; log
  entry 33). -/
  joined : Bool
  deriving DecidableEq, Repr

/-! ### Drive Unit (Table 5-5, R104, R106) -/

inductive LockRole where
  | free
  | following
  | pending
  | refused
  | lost
  deriving DecidableEq, Repr

structure Drive where
  frequency : Nat
  role : LockRole
  pendingCounter : Nat
  density : Eight Nat
  rawDensity : Eight Nat
  /-- Slot pattern: the slots of 1..15 that are on (R95). -/
  pattern : Eight (List Nat)
  /-- The coil is being driven in the half-cycle in progress (R99). -/
  driven : Eight Bool
  /-- Drive gates (R92). The probe pulse is the Probe Engine's and stands in its capture units (log entry 8). -/
  highGate : Eight Bool
  lowGate : Eight Bool
  counter : Nat
  cutLoss : Nat
  /-- Hand-over shortfall (R96). -/
  shortfall : Nat
  /-- Shortfall as the last hand-over published it (R96). -/
  published : Nat
  /-- Module frequency as the last hand-over left it, which is the one a status reports (R98, R157). -/
  handedFrequency : Nat
  leftMask : BitVec 4
  rightMask : BitVec 4
  rightContribution : Nat
  lockFloor : Nat
  ownFloor : Nat
  chainFloor : Nat
  deriving DecidableEq, Repr

/-! ### Sense Unit (Table 7-1) -/

/-- Half-cycle accumulator of one coil. -/
structure Accumulator where
  inFlight : Bool
  sum : Int
  count : Nat
  deriving DecidableEq, Repr

/-- Window values of one coil. -/
structure WindowValue where
  sum : Nat
  number : Nat
  deriving DecidableEq, Repr

structure Sense where
  acc : Eight Accumulator
  window : Eight WindowValue
  /-- Measured power P_i, or absent. -/
  power : Eight (Option Nat)
  bus : Nat
  busRun : Nat
  busHigh : Bool
  sinkTemp : Option Nat
  sinkFault : Bool
  sinkRecovery : Nat
  sinkHot : Bool
  /-- The temperature conversions of this window have started and their readings are not handed over yet (R125). -/
  converting : Bool
  deriving DecidableEq, Repr

/-! ### Link Controller (R141 to R149) -/

inductive NoticeKind where
  | appeared
  | lifted
  | returned
  | gone
  | merged
  | contact
  | step
  | done
  | unsuitable
  deriving DecidableEq, Repr

/-- The key of a queue entry (R141). A notice of no tag has tag none. -/
inductive Key where
  | status
  | fragment (tag : Tag)
  | notice (tag : Option Tag) (kind : NoticeKind)
  deriving DecidableEq, Repr

/-- A transmit queue entry (R141, R142). Its frame kind is its key's. -/
structure QueueEntry where
  key : Key
  level : Nat
  payload : List Byte
  contending : Bool
  /-- The frame held as the contending entry's replacement. -/
  replacement : Option (List Byte)
  deriving DecidableEq, Repr

/-- An own frame whose contention is won and that is on the line, with the bits it sends from start mark to check. -/
structure SentFrame where
  key : Key
  level : Nat
  payload : List Byte
  bits : List Bool
  deriving DecidableEq, Repr

inductive Phase where
  | a
  | b
  deriving DecidableEq, Repr

/-- The content of a MODULE_STATUS as Table 9-6 codes it. -/
structure Status where
  stateCode : Nat
  phase : Phase
  causeCode : Nat
  demand : Nat
  grant : Nat
  maximum : Nat
  frequency : Nat
  role : LockRole
  chainFloor : Nat
  leftMask : BitVec 4
  rightMask : BitVec 4
  faultTop : Nat
  faultCount : Nat
  byte12 : Nat
  losses : Nat
  rejects : Nat
  unheard : Nat
  dropped : Nat
  malformed : Nat
  shortfall : Nat
  deriving DecidableEq, Repr

/-- A roster entry (R146): unheard (none) or the last status and its age in windows. -/
structure RosterEntry where
  content : Option Status
  age : Nat
  deriving DecidableEq, Repr

/-- The program a FRAGMENT report carries. -/
structure Published where
  program : Program
  target : Nat
  deriving DecidableEq, Repr

/-- A FRAGMENT report with area above 0, as decoded (R156). -/
structure Report where
  tag : Tag
  area : Nat
  /-- Entry r is the left-edge coverage of row r, entry r + 4 the right-edge coverage. -/
  edge : Eight Nat
  published : Option Published
  home : Bool
  contact : Bool
  deriving DecidableEq, Repr

/-- A peer fragment table entry (R147). -/
structure PeerEntry where
  source : Position
  report : Report
  age : Nat
  deriving DecidableEq, Repr

structure Link where
  /-- Transmit queue, oldest first. -/
  queue : List QueueEntry
  sending : Option SentFrame
  roster : Eight RosterEntry
  /-- Peer fragment table, oldest stored first. -/
  peers : List PeerEntry
  losses : Nat
  rejects : Nat
  unheard : Nat
  dropped : Nat
  malformed : Nat
  /-- Interval count under ALONE (R137). -/
  interval : Nat
  blockedCount : Nat
  alone : Bool
  linkBlocked : Bool
  /-- An own frame has won contention since the previous window start (R145). -/
  wonInWindow : Bool
  /-- 11 recessive bits have been seen and no dominant bit since (R131). -/
  lineIdle : Bool
  /-- A filler violation has been heard and the line has not been idle since: the receiver waits for idle (R138). -/
  awaitsIdle : Bool
  /-- The module drove the acknowledge slot of the last frame received (R138). -/
  ackDriven : Bool
  /-- The module drove the reject slot of the last frame received (R138). -/
  rejectDriven : Bool
  deriving DecidableEq, Repr

/-! ### Supervisor (Table 10-1, R172 to R175) -/

inductive ModuleState where
  | loading
  | setupFault
  | quiet
  | run
  | stopped
  | silent
  deriving DecidableEq, Repr

inductive PanelState where
  | on
  | standby
  deriving DecidableEq, Repr

inductive StopCause where
  | none
  | external
  | ownOvervolt
  deriving DecidableEq, Repr

structure Supervisor where
  state : ModuleState
  lastPanel : PanelState
  absence : Nat
  overvoltageDrive : Bool
  clearRun : Nat
  stopCause : StopCause
  resetCause : ResetCause
  faultCode : Nat
  /-- Position 0..7 read from the straps (R173). -/
  position : Position
  /-- The device is held in reset (R172). -/
  held : Bool
  /-- The supply rose from below the power-on level during this reset (R172). -/
  sawPowerOn : Bool
  /-- A dip was seen during this reset (R172). -/
  sawDip : Bool
  /-- The setup memory read is in flight (R174). -/
  reading : Bool
  /-- Another station drives the stop line: the level of the pin that is not the module's own (R166, R168). -/
  stopExternal : Bool
  deriving DecidableEq, Repr

/-! ### Setup values (Tables 9-8, 9-9) -/

/-- The setup fields of one coil (Table 9-9). -/
structure CoilSetup where
  fitted : Bool
  emptyCount : Nat
  fullCount : Nat
  emptyPeriod : Nat
  floor : Nat
  coilMax : Nat
  nominalPower : Nat
  softTemp : Nat
  hardTemp : Nat
  currentLimit : Nat
  deriving DecidableEq, Repr

/-- The setup values the blocks use (R161). -/
structure Setup where
  phase : Phase
  phaseLimit : Nat
  moduleMax : Nat
  startFrequency : Nat
  /-- Probe width in µs, clamped to 2..12. -/
  probeWidth : Nat
  /-- Dead time in 64 MHz ticks, clamped to 32..128. -/
  deadTime : Nat
  fragmentLevel : Nat
  statusLevel : Nat
  noticeLevel : Nat
  sinkSoft : Nat
  sinkHard : Nat
  busMax : Nat
  busMin : Nat
  coils : Eight CoilSetup
  deriving DecidableEq, Repr

/-- Everything the spec gives the module, the queue of waiting commands, and the model's own counter of free values. -/
structure State where
  timebase : Timebase
  probe : Probe
  coils : Eight Coil
  tracker : Tracker
  /-- Setting cache, least recently refreshed first (R46). -/
  cache : List CacheEntry
  alloc : Allocator
  drive : Drive
  sense : Sense
  link : Link
  sup : Supervisor
  /-- The 128 bytes of the last read, address 0 first (R174). -/
  image : List Byte
  /-- The image has been judged good and is loaded (R176). -/
  setupGood : Bool
  /-- The loaded values. Idle until `setupGood` (R161). -/
  setup : Setup
  /-- The model's own: how many free values of `Config.freeNStar` have been used (log entry 5). -/
  freeUsed : Nat
  /-- The commands that wait, first in, first out. -/
  pending : List Instr
  deriving DecidableEq, Repr

/-- No meaning of this model faults: the spec gives every command an effect in every state (log entry 6). -/
inductive Fault where
  deriving DecidableEq, Repr

/-- Refusals. -/
inductive Refusal where
  /-- Raised by an arm of `exec` whose command has no meaning yet. Safe: nothing is claimed of that command. -/
  | notModelled (mnemonic : String)
  deriving DecidableEq, Repr

/-! ### Reset values -/

/-- Table 5-1, after reset. -/
def Timebase.reset : Timebase :=
  { mainsClass := .unknown, measCount := 0, measFirst := 0, measPrev := 0, period := none, reference := none,
    syntheticRun := 0, acceptedRun := 0, mainsLost := false, halfCycle := 0, tickCount := 0,
    windowStartRaised := false, allocationRaised := false, secondTickRaised := false }

/-- A capture unit at rest. -/
def Capture.off : Capture :=
  { phase := .off, pulseEnd := 0, firstMark := 0, lastMark := 0, marks := 0, cycleEnd := 0 }

/-- R1: after reset the sweep progress holds IDLE. -/
def Probe.reset : Probe := { sweep := none, unit0 := Capture.off, unit1 := Capture.off, pulseTicks := 0 }

/-- Table 1-2, after reset. -/
def Coil.reset : Coil :=
  { fitted := false, presence := .absent, coverage := 0, floor := 41, temperature := none, overheat := true,
    sensorFault := false, recovery := 0, faultTimer := 0, faultRetries := 0, liftSuspected := false, held := false,
    heating := false, effectiveMax := 0, drivenInWindow := false, overcurrentInWindow := false }

/-- R45: pan table and lifted list empty, serial counter 1. -/
def Tracker.reset : Tracker := { pans := [], lifted := [], serial := 1 }

/-- R64: every figure 0, every assigned flag clear. -/
def Allocator.zero : Allocator :=
  { rawDemand := Eight.fill 0, demand := Eight.fill 0, demandSum := 0, sinkCap := 0, moduleDemand := 0, moduleMax := 0,
    phaseSum := 0, moduleGrant := 0, grant := Eight.fill 0, assigned := Eight.fill false,
    joined := false }

/-- Table 5-5, R104 and R106, after reset. -/
def Drive.reset : Drive :=
  { frequency := 41, role := .free, pendingCounter := 0, density := Eight.fill 0, rawDensity := Eight.fill 0,
    pattern := Eight.fill [], driven := Eight.fill false, highGate := Eight.fill false, lowGate := Eight.fill false,
    counter := 0, cutLoss := 0, shortfall := 0, published := 0, handedFrequency := 41, leftMask := 0, rightMask := 0,
    rightContribution := 41, lockFloor := 41, ownFloor := 41, chainFloor := 41 }

/-- An accumulator cleared, no half-cycle in flight. -/
def Accumulator.clear : Accumulator := { inFlight := false, sum := 0, count := 0 }

/-- Table 7-1, after reset. -/
def Sense.reset : Sense :=
  { acc := Eight.fill Accumulator.clear, window := Eight.fill { sum := 0, number := 0 }, power := Eight.fill none,
    bus := 0, busRun := 0, busHigh := false, sinkTemp := none, sinkFault := false, sinkRecovery := 0, sinkHot := false,
    converting := false }

/-- R146: unheard with no content. -/
def RosterEntry.unheard : RosterEntry := { content := none, age := 0 }

/-- R150, reset. -/
def Link.reset : Link :=
  { queue := [], sending := none, roster := Eight.fill RosterEntry.unheard, peers := [], losses := 0, rejects := 0,
    unheard := 0, dropped := 0, malformed := 0, interval := 0, blockedCount := 0, alone := false, linkBlocked := false,
    wonInWindow := false, lineIdle := false, awaitsIdle := false, ackDriven := false, rejectDriven := false }

/-- Table 10-1 after a power-on that holds the device in reset. The straps are not read yet: position 0 is the model's choice
(log entry 7), as is a stop line that no other station drives. -/
def Supervisor.reset : Supervisor :=
  { state := .loading, lastPanel := .standby, absence := 0, overvoltageDrive := false, clearRun := 0, stopCause := .none,
    resetCause := .powerOn, faultCode := 0, position := 0, held := true, sawPowerOn := true, sawDip := false,
    reading := false, stopExternal := false }

/-- The setup values of one coil before a good image is loaded: idle, zero by the model's choice (log entry 7). -/
def CoilSetup.idle : CoilSetup :=
  { fitted := false, emptyCount := 0, fullCount := 0, emptyPeriod := 0, floor := 0, coilMax := 0, nominalPower := 0,
    softTemp := 0, hardTemp := 0, currentLimit := 0 }

/-- The setup values before a good image is loaded: idle, zero by the model's choice (log entry 7). -/
def Setup.idle : Setup :=
  { phase := .a, phaseLimit := 0, moduleMax := 0, startFrequency := 0, probeWidth := 0, deadTime := 0, fragmentLevel := 0,
    statusLevel := 0, noticeLevel := 0, sinkSoft := 0, sinkHard := 0, busMax := 0, busMin := 0,
    coils := Eight.fill CoilSetup.idle }

/-- The module right after reset: a power-on has put every block at its reset values and the device is held in reset (R172). -/
def State.reset : State :=
  { timebase := Timebase.reset, probe := Probe.reset, coils := Eight.fill Coil.reset, tracker := Tracker.reset, cache := [],
    alloc := Allocator.zero, drive := Drive.reset, sense := Sense.reset, link := Link.reset, sup := Supervisor.reset,
    image := [], setupGood := false, setup := Setup.idle, freeUsed := 0, pending := [] }

/-- What a meaning answers. -/
abbrev Result := Host.Outcome State Fault Refusal

end Sys2Proof.Machine
end

