-- ==== Sys2Proof/Machine/Operands.lean ====
section
/-! DEFINITION. What the raw operands of the commands mean: temperature codes, current samples, and the fields of the setup
image with their judgement (R125, R116, R160, R175). -/

namespace Sys2Proof.Machine

open Sys2Proof

/-! ### Sensor codes and samples -/

/-- Table 7-4: the reading of a temperature code, none being SENSOR_FAULT. -/
def temperatureOf (code : BitVec 12) : Option Nat :=
  let c := code.toNat
  if c ≤ 127 then none
  else if c ≤ 399 then some 0
  else if c ≤ 3600 then some ((c - 400) * 3 / 32)
  else if c ≤ 3968 then some 300
  else none

/-- R116: the signed sample, -2048..2047, in 25 mA units. -/
def sampleValue (sample : BitVec 12) : Int := sample.toInt

/-- R116: a sample at either end of the converter's range is saturated. -/
def saturatedSample (sample : BitVec 12) : Bool := sampleValue sample = -2048 || sampleValue sample = 2047

/-- R91: the drive period in ticks, 128000 / f to the nearest whole tick. -/
def drivePeriod (f : Nat) : Nat := halfUpDiv 128000 f

/-- R92: half the drive period, rounded down. -/
def halfPeriod (f : Nat) : Nat := drivePeriod f / 2

/-- R116: the eight sample points of a drive period. -/
def samplePoints (f : Nat) : List Nat := [0, 1, 2, 3, 4, 5, 6, 7].map fun k => k * (drivePeriod f / 8)

/-! ### Bytes -/

/-- The byte of a natural's low eight bits. -/
def byteOf (n : Nat) : Byte := BitVec.ofNat 8 n

/-- Two bytes, most significant first (R151). -/
def wordBytes (n : Nat) : List Byte := [byteOf (n / 256), byteOf n]

/-- Byte `a` of a payload; 0 beyond its end. -/
def byteAt (p : List Byte) (a : Nat) : Nat := (p.getD a 0).toNat

/-- The two-byte field at `a` (R151). -/
def wordAt (p : List Byte) (a : Nat) : Nat := byteAt p a * 256 + byteAt p (a + 1)

/-! ### The setup image (Tables 9-8, 9-9) -/

/-- Byte `a` of the setup image. A memory that gives no byte reads FFh (R174). -/
def imageByte (image : List Byte) (a : Nat) : Nat := (image.getD a 255#8).toNat

/-- The two-byte setup field at `a`. -/
def imageWord (image : List Byte) (a : Nat) : Nat := imageByte image a * 256 + imageByte image (a + 1)

/-- The three-byte group at `a`: two 12-bit fields, the first in the high-order bits. -/
def imageGroup (image : List Byte) (a : Nat) : Nat :=
  imageByte image a * 65536 + imageByte image (a + 1) * 256 + imageByte image (a + 2)

/-- The fields of coil `k`, as read (Table 9-9). -/
def readCoilSetup (image : List Byte) (k : CoilIx) : CoilSetup :=
  let a := 18 + 13 * k.val
  { fitted := 128 ≤ imageByte image a
    emptyCount := imageByte image a % 32
    fullCount := imageByte image (a + 1)
    emptyPeriod := imageWord image (a + 2)
    floor := imageByte image (a + 4)
    coilMax := imageGroup image (a + 5) / 4096
    nominalPower := imageGroup image (a + 5) % 4096
    softTemp := imageGroup image (a + 8) / 4096
    hardTemp := imageGroup image (a + 8) % 4096
    currentLimit := imageWord image (a + 11) }

/-- The image's values with the two clamps of R160 applied. -/
def readSetup (image : List Byte) : Setup :=
  { phase := if imageByte image 1 = 0 then .a else .b
    phaseLimit := imageWord image 2
    moduleMax := imageWord image 4
    startFrequency := imageByte image 6
    probeWidth := clampNat 2 12 (imageByte image 7)
    deadTime := clampNat 32 128 (imageByte image 8)
    fragmentLevel := imageByte image 9
    statusLevel := imageByte image 10
    noticeLevel := imageByte image 11
    sinkSoft := imageByte image 12
    sinkHard := imageByte image 13
    busMax := imageWord image 14
    busMin := imageWord image 16
    coils := Eight.ofFn (readCoilSetup image) }

/-- `lo ≤ n ≤ hi`. -/
def inRange (lo hi n : Nat) : Bool := lo ≤ n && n ≤ hi

/-- Fields 1 to 14 with their judgement (Table 9-8). Fields 6 and 7 are clamped and never fail (R160). -/
def moduleFields (image : List Byte) : List (Nat × Bool) :=
  let su := readSetup image
  [(1, imageByte image 0 = 1),
   (2, imageByte image 1 ≤ 1),
   (3, su.phaseLimit ≤ 740),
   (4, su.moduleMax ≤ 2400),
   (5, inRange 41 140 su.startFrequency),
   (6, true),
   (7, true),
   (8, su.fragmentLevel ≤ 3),
   (9, su.statusLevel ≤ 3),
   (10, su.noticeLevel ≤ 3),
   (11, su.sinkSoft ≤ 140),
   (12, inRange (su.sinkSoft + 10) 150 su.sinkHard),
   (13, inRange 1 1022 su.busMax),
   (14, su.busMin < su.busMax)]

/-- Fields 15 + 10k to 24 + 10k with their judgement (Table 9-9). An unfitted coil's fields are not judged (R160). -/
def coilFields (image : List Byte) (k : CoilIx) : List (Nat × Bool) :=
  let c := readCoilSetup image k
  let n := 10 * k.val
  if c.fitted then
    [(15 + n, true),
     (16 + n, inRange 8 31 c.emptyCount),
     (17 + n, c.fullCount + 4 ≤ c.emptyCount),
     (18 + n, inRange 200 2000 c.emptyPeriod),
     (19 + n, inRange 41 140 c.floor),
     (20 + n, c.coilMax ≤ 300),
     (21 + n, inRange 1 300 c.nominalPower),
     (22 + n, inRange 10 290 c.softTemp),
     (23 + n, inRange (c.softTemp + 10) 300 c.hardTemp),
     (24 + n, inRange 1 2047 c.currentLimit)]
  else []

/-- The byte sum of the 128 bytes. -/
def imageSum (image : List Byte) : Nat := ((List.range 128).map (imageByte image)).sum

/-- R175: every field in the order it is judged, the check last. -/
def judgedFields (image : List Byte) : List (Nat × Bool) :=
  moduleFields image ++ allCoils.flatMap (coilFields image) ++ [(96, decide (imageSum image % 256 = 0))]

/-- R175: the setup fault code, the lowest-numbered failing field; 0 when none fails. -/
def setupFaultCode (image : List Byte) : Nat :=
  match (judgedFields image).find? fun f => !f.2 with
  | some f => f.1
  | none => 0

end Sys2Proof.Machine
end

