-- ==== Sys2Proof/Machine/Formats.lean ====
section
/-! DEFINITION. The frame formats of spec/09 and the line format of spec/08: payload encoding and decoding, the check, and
the filler bits. A bit is true when it is 1, the recessive level. -/

namespace Sys2Proof.Machine

open Sys2Proof

/-! ### Codes (Tables 9-1, 9-7) -/

/-- The tag a two-byte tag field holds (R151): bit 15 is spare. -/
inductive TagField where
  | zero
  | invalid
  | tag (t : Tag)
  deriving DecidableEq, Repr

/-- R151: bits 14..12 creator, bits 11..0 serial; all 0 is no tag, serial 0 with a creator no valid tag. -/
def tagField (w : Nat) : TagField :=
  if w % 32768 = 0 then .zero
  else if w % 4096 = 0 then .invalid
  else .tag { creator := ⟨w / 4096 % 8, Nat.mod_lt _ (by decide)⟩, serial := ⟨w % 4096, Nat.mod_lt _ (by decide)⟩ }

/-- The code of a tag, 0 for no tag (R151). -/
def tagCode : Option Tag → Nat
  | none => 0
  | some t => t.code

def Phase.code : Phase → Nat
  | .a => 0
  | .b => 1

def phaseOf (n : Nat) : Phase := if n = 0 then .a else .b

def LockRole.code : LockRole → Nat
  | .free => 0
  | .following => 1
  | .pending => 2
  | .refused => 3
  | .lost => 4

def lockRoleOf : Nat → Option LockRole
  | 0 => some .free
  | 1 => some .following
  | 2 => some .pending
  | 3 => some .refused
  | 4 => some .lost
  | _ => none

/-- Table 9-1. LOADING and SILENT have no code: a module in either sends nothing. -/
def ModuleState.code : ModuleState → Nat
  | .setupFault => 1
  | .quiet => 2
  | .run => 3
  | .stopped => 4
  | .loading => 0
  | .silent => 0

def resetCauseCode : ResetCause → Nat
  | .powerOn => 1
  | .resetPin => 2
  | .supplyDip => 3

def StopCause.code : StopCause → Nat
  | .none => 0
  | .external => 1
  | .ownOvervolt => 2

/-- Table 9-7. -/
def NoticeKind.code : NoticeKind → Nat
  | .appeared => 1
  | .lifted => 2
  | .returned => 3
  | .gone => 4
  | .merged => 5
  | .contact => 6
  | .step => 7
  | .done => 8
  | .unsuitable => 9

/-- A flag at a bit's weight. -/
def flag (b : Bool) (weight : Nat) : Nat := if b then weight else 0

/-- Whether the bit of a weight stands in a byte. -/
def hasFlag (n weight : Nat) : Bool := n / weight % 2 = 1

/-! ### PAN_NOTICE (Table 9-7) -/

def encodeNotice (tag : Option Tag) (kind : NoticeKind) (detail : Nat) : List Byte :=
  wordBytes (tagCode tag) ++ [byteOf kind.code, byteOf detail]

/-! ### FRAGMENT (Table 9-5, R155, R156) -/

/-- Bytes 12 to 18 and the has-program, done and unloaded flags of a fragment's program (R155). -/
def encodePublished : Option Published → List Byte × Nat
  | none => ([0, 0, 0, 0, 0, 0, 0], 0)
  | some p =>
    ([p.program.revision, byteOf p.program.step] ++ wordBytes p.program.remaining ++
        [byteOf (p.program.loop.getD 0)] ++ wordBytes p.target,
      flag true 128 + flag p.program.done 64 + flag p.program.loop.isNone 8)

/-- The 20 bytes of a FRAGMENT (R155). -/
def encodeReport (r : Report) : List Byte :=
  let p := encodePublished r.published
  wordBytes r.tag.code ++ wordBytes r.area ++ r.edge.toList.map byteOf ++ p.1 ++
    [byteOf (p.2 + flag r.home 32 + flag r.contact 16)]

/-- A closed FRAGMENT: the released tag and 0 in every other byte (R155). -/
def encodeClosed (tag : Tag) : List Byte := wordBytes tag.code ++ List.replicate 18 0

/-- What a well-formed FRAGMENT says. -/
inductive FragmentContent where
  | closed (tag : Tag)
  | report (r : Report)
  deriving DecidableEq, Repr

/-- The program fields of a FRAGMENT, none where a value is out of range (R156). -/
def decodePublished (p : List Byte) : Option Published :=
  let flags := byteAt p 19
  let unloaded := hasFlag flags 8
  if byteAt p 13 ≤ 5 && wordAt p 14 ≤ 5999 && (unloaded || byteAt p 16 ≤ 15) && wordAt p 17 ≤ 740 then
    some
      { program :=
          { revision := p.getD 12 0
            step := byteAt p 13
            remaining := wordAt p 14
            loop := if unloaded then none else some (byteAt p 16)
            done := hasFlag flags 64 }
        target := wordAt p 17 }
  else none

/-- R156: the decode of a FRAGMENT, none where it is malformed. -/
def decodeFragment (p : List Byte) : Option FragmentContent :=
  if p.length = 20 then
    match tagField (wordAt p 0) with
    | .zero => none
    | .invalid => none
    | .tag t =>
      let area := wordAt p 2
      if area = 0 then some (.closed t)
      else
        let edge := Eight.ofFn fun i => byteAt p (4 + i.val)
        if inRange 16 512 area && edge.toList.all (fun c => c = 0 || inRange 16 64 c) && edge.sum = area then
          let flags := byteAt p 19
          let base : Report :=
            { tag := t, area := area, edge := edge, published := none, home := hasFlag flags 32, contact := hasFlag flags 16 }
          if hasFlag flags 128 then
            match decodePublished p with
            | some q => some (.report { base with published := some q })
            | none => none
          else some (.report base)
        else none
  else none

/-! ### MODULE_STATUS (Table 9-6, R157, R158) -/

/-- The 20 bytes of a MODULE_STATUS. -/
def encodeStatus (st : Status) : List Byte :=
  [byteOf (st.stateCode * 32 + st.phase.code * 16 + st.causeCode * 4)] ++
    wordBytes st.demand ++ wordBytes st.grant ++ wordBytes st.maximum ++
    [byteOf st.frequency, byteOf st.role.code, byteOf st.chainFloor,
     byteOf (st.leftMask.toNat * 16 + st.rightMask.toNat), byteOf (st.faultTop * 16 + st.faultCount),
     byteOf st.byte12, byteOf st.losses, byteOf st.rejects, byteOf st.unheard, byteOf st.dropped, byteOf st.malformed] ++
    wordBytes st.shortfall

/-- R158: the decode of a MODULE_STATUS, none where it is malformed. -/
def decodeStatus (p : List Byte) : Option Status :=
  if p.length = 20 then
    let b0 := byteAt p 0
    let b11 := byteAt p 11
    let demand := wordAt p 1
    let grant := wordAt p 3
    let maximum := wordAt p 5
    match lockRoleOf (byteAt p 8) with
    | none => none
    | some role =>
      if inRange 1 4 (b0 / 32) && 1 ≤ b0 / 4 % 4 && demand ≤ 2400 && maximum ≤ 2400 && grant ≤ 740 &&
          grant ≤ demand && demand ≤ maximum && inRange 41 140 (byteAt p 7) && inRange 41 140 (byteAt p 9) &&
          b11 / 16 ≤ 8 && b11 % 16 ≤ 8 && decide (b11 / 16 = 0) == decide (b11 % 16 = 0) then
        some
          { stateCode := b0 / 32
            phase := phaseOf (b0 / 16 % 2)
            causeCode := b0 / 4 % 4
            demand := demand
            grant := grant
            maximum := maximum
            frequency := byteAt p 7
            role := role
            chainFloor := byteAt p 9
            leftMask := BitVec.ofNat 4 (byteAt p 10 / 16)
            rightMask := BitVec.ofNat 4 (byteAt p 10)
            faultTop := b11 / 16
            faultCount := b11 % 16
            byte12 := byteAt p 12
            losses := byteAt p 13
            rejects := byteAt p 14
            unheard := byteAt p 15
            dropped := byteAt p 16
            malformed := byteAt p 17
            shortfall := wordAt p 18 % 4096 }
      else none
  else none

/-! ### PANEL_STATE and PAN_SETTING (Tables 9-2 to 9-4, R153, R154) -/

/-- R153. -/
def decodePanelState (p : List Byte) : Option PanelState :=
  if p.length = 1 then
    match byteAt p 0 with
    | 1 => some .on
    | 2 => some .standby
    | _ => none
  else none

/-- A PAN_SETTING as handed to the Setting Store: its tag may be 0 (R154). -/
structure Setting where
  tag : Option Tag
  revision : Byte
  mode : ReportMode
  steps : List Step
  deriving DecidableEq, Repr

/-- R48, Table 9-4: the step of index `k` from its step word, brought within range. -/
def decodeStep (k w : Nat) : Step :=
  let back := w / 64 % 8
  let count := w / 4 % 16
  { target := min 740 (w / 4194304)
    duration := min 5999 (w / 512 % 8192)
    loop := if back < k && 0 < count then some { back := back, count := count } else none }

/-- The step word of step `k` (bytes 4 + 4k to 7 + 4k). -/
def stepWord (p : List Byte) (k : Nat) : Nat := wordAt p (4 + 4 * k) * 65536 + wordAt p (6 + 4 * k)

/-- R154: the decode of a PAN_SETTING, none where it is malformed. -/
def decodeSetting (p : List Byte) : Option Setting :=
  let n := byteAt p 3 % 8
  if 4 ≤ p.length && inRange 1 6 n && p.length = 4 + 4 * n then
    let mode : ReportMode := if hasFlag (byteAt p 3) 128 then .endOnly else .eachStep
    let steps := (List.range n).map fun k => decodeStep k (stepWord p k)
    match tagField (wordAt p 0) with
    | .invalid => none
    | .zero => some { tag := none, revision := p.getD 2 0, mode := mode, steps := steps }
    | .tag t => some { tag := some t, revision := p.getD 2 0, mode := mode, steps := steps }
  else none

/-! ### The line format (Table 8-1, R131, R132, R138) -/

/-- The `n` low bits of `w`, most significant first. -/
def bitsOf : Nat → Nat → List Bool
  | 0, _ => []
  | n + 1, w => decide (w / 2 ^ n % 2 = 1) :: bitsOf n w

/-- The number a list of bits is, most significant first. -/
def numberOf (bits : List Bool) : Nat := bits.foldl (fun n b => 2 * n + (if b then 1 else 0)) 0

/-- One bit into the check register: generator x^16 + x^12 + x^5 + 1 (R132). -/
def crcStep (r : BitVec 16) (b : Bool) : BitVec 16 :=
  if r.msb != b then (r <<< 1) ^^^ 0x1021#16 else r <<< 1

/-- R132: the check over a list of bits; the register starts at all ones, no final inversion. -/
def crc (bits : List Bool) : BitVec 16 := bits.foldl crcStep 0xFFFF#16

/-- The number of each frame kind a module sends (R139). -/
def Key.kindNumber : Key → Nat
  | .fragment _ => 3
  | .status => 4
  | .notice _ _ => 5

/-- R132: the contention field of ten bits, the urgency sent as 3 − level. -/
def contentionField (level kind source : Nat) : List Bool :=
  bitsOf 2 (3 - level) ++ bitsOf 4 kind ++ bitsOf 4 source

/-- The bits the check runs over: contention field, length and payload. -/
def checkedBits (level kind source : Nat) (payload : List Byte) : List Bool :=
  contentionField level kind source ++ bitsOf 6 payload.length ++ payload.flatMap fun b => bitsOf 8 b.toNat

/-- A frame from its start mark to its check, without filler bits (Table 8-1). -/
def plainBits (level kind source : Nat) (payload : List Byte) : List Bool :=
  let body := checkedBits level kind source payload
  false :: (body ++ bitsOf 16 (crc body).toNat)

/-- R131: a filler bit of the opposite value after every run of five equal bits; it is the first bit of the next run.
`last` and `run` are the last bit sent and the length of the run it ends. -/
def stuff (last : Bool) (run : Nat) : List Bool → List Bool
  | [] => []
  | b :: bs =>
    let r := if b = last then run + 1 else 1
    if r = 5 then b :: (!b) :: stuff (!b) 1 bs else b :: stuff b r bs

/-- The bits a frame puts on the line from its start mark to the end of its check. -/
def wireBits (level kind source : Nat) (payload : List Byte) : List Bool :=
  stuff true 0 (plainBits level kind source payload)

/-- What is left to read after some bits: the run the last bit ends, and the rest of the line. -/
structure Reader where
  last : Bool
  run : Nat
  rest : List Bool
  deriving DecidableEq, Repr

/-- R131, R138: the next `n` bits with their filler bits removed, none at a filler violation or where the frame breaks off. -/
def readBits : Nat → Reader → Option (List Bool × Reader)
  | 0, rd => some ([], rd)
  | n + 1, rd =>
    match rd.rest with
    | [] => none
    | b :: bs =>
      let r := if b = rd.last then rd.run + 1 else 1
      if r = 5 then
        match bs with
        | [] => none
        | f :: fs =>
          if f = b then none
          else (readBits n { last := f, run := 1, rest := fs }).map fun x => (b :: x.1, x.2)
      else (readBits n { last := b, run := r, rest := bs }).map fun x => (b :: x.1, x.2)

/-- What a receiver makes of a frame at the end of its check field (R138). -/
inductive Reception where
  /-- A filler violation, or a frame broken off. -/
  | violation
  /-- The check read at the bit count that the length gives is wrong. -/
  | wrongCheck
  /-- The check is correct. -/
  | whole (kind : BitVec 4) (source : LinkPos) (payload : List Byte)
  deriving DecidableEq, Repr

/-- A bit list cut into bytes. -/
def bytesOf : Nat → List Bool → List Byte
  | 0, _ => []
  | n + 1, bits => byteOf (numberOf (bits.take 8)) :: bytesOf n (bits.drop 8)

/-- R138: the receiver, from the start mark to the end of the check. -/
def receiveBits (bits : List Bool) : Reception :=
  match readBits 17 { last := true, run := 0, rest := bits } with
  | none => .violation
  | some (head, rd) =>
    let n := numberOf (head.drop 11)
    match readBits (8 * n) rd with
    | none => .violation
    | some (body, rd') =>
      match readBits 16 rd' with
      | none => .violation
      | some (check, _) =>
        if head.head? = some true then .violation
        else if crc (head.drop 1 ++ body) = BitVec.ofNat 16 (numberOf check) then
          .whole (BitVec.ofNat 4 (numberOf ((head.drop 3).take 4)))
            ⟨numberOf ((head.drop 7).take 4) % 16, Nat.mod_lt _ (by decide)⟩ (bytesOf n body)
        else .wrongCheck

end Sys2Proof.Machine
end

