-- ==== Sys2Proof/Machine/Flags.lean ====
section
/-! DEFINITION. Every condition and flag the rules derive from the state: the coil state, what stops or inhibits drive,
freshness, the fault summary, current targets. -/

namespace Sys2Proof.Machine

open Sys2Proof

/-! ### Coil state (R9) -/

/-- Table 1-2, note 1: the fault record is active. -/
def Coil.faultActive (c : Coil) : Bool := 0 < c.faultTimer || c.faultRetries = 3

/-- Table 1-3, first matching row. -/
def coilState (c : Coil) : CoilState :=
  if !c.fitted then .idle
  else
    match c.presence with
    | .nonferrous => .blocked
    | .absent => .idle
    | .pan =>
      if c.faultActive then .faulted
      else if c.overheat then .hot
      else if c.held then .held
      else if c.heating then .heating
      else .covered

/-- R9: the covered class. -/
def Coil.coveredClass (c : Coil) : Bool := c.fitted && c.presence = .pan

/-- R94: the states in which a coil's density is 0. -/
def undrivable : CoilState → Bool
  | .hot => true
  | .faulted => true
  | .held => true
  | .blocked => true
  | .idle => true
  | .covered => false
  | .heating => false

/-! ### What stops and inhibits drive -/

/-- R162, note 1: the module drives the stop line. -/
def State.ownStop (s : State) : Bool := s.sup.overvoltageDrive || s.sup.state = .silent

/-- The stop line is sensed asserted: it is wired-OR and the module senses its own drive (R166, R169). -/
def State.stopAsserted (s : State) : Bool := s.sup.stopExternal || s.ownStop

/-- Pin SCS of the setup memory port: low while the read is in flight, high otherwise (R172, R174). -/
def State.scsHigh (s : State) : Bool := !s.sup.reading

/-- The bits the module sends on SMO in the read in flight, most significant first: the read command and address 0 (R174). -/
def State.smoBits (s : State) : List Bool :=
  if s.sup.reading then Config.readCommand.flatMap fun b => bitsOf 8 b.toNat else []

/-- R138: frames are received: the module is not SILENT, and the receiver does not wait for idle after a filler violation. -/
def State.receives (s : State) : Bool := s.sup.state ≠ .silent && !s.link.awaitsIdle

/-- R102: a condition that inhibits all drive holds. -/
def State.inhibited (s : State) : Bool := s.timebase.mainsLost || s.link.linkBlocked || s.sense.sinkHot

/-- The current half-cycle is a drive slot, 1..15. -/
def State.driveSlot (s : State) : Bool := s.timebase.halfCycle ≠ 0

/-- R2: a probe pulse is on a coil: its capture unit is in its pulse. -/
def State.pulseOn (s : State) (i : CoilIx) : Bool :=
  match s.probe.sweep with
  | none => false
  | some p => (s.probe.unit0.phase = .pulse && i.val = p.val) || (s.probe.unit1.phase = .pulse && i.val = (p.val + 2) % 4 + 4)

/-- Pin GH of a coil: the drive's high-side gate or the probe pulse (R2, R92). -/
def State.highPin (s : State) (i : CoilIx) : Bool := s.drive.highGate.get i || s.pulseOn i

/-- Pin GL of a coil (R92). -/
def State.lowPin (s : State) (i : CoilIx) : Bool := s.drive.lowGate.get i

/-! ### Figures of the coils -/

/-- R94: the P_i the Drive Unit takes: the measured power, 1 for a measured 0, P_nom while absent; at least 1. -/
def State.powerTaken (s : State) (i : CoilIx) : Nat :=
  match s.sense.power.get i with
  | none => max 1 (s.setup.coils.get i).nominalPower
  | some p => max 1 p

/-- R96: the number k of a coil's on slots from the slot in progress, when it is being driven in it, through slot 15. In slot 0,
and at the slot 1 boundary before the hand-over, every drive slot of the densities' window has passed. -/
def State.slotsLeft (s : State) (i : CoilIx) : Nat :=
  let now := s.timebase.halfCycle.val
  if now = 0 || s.timebase.allocationRaised then 0
  else ((s.drive.pattern.get i).filter fun n => if s.drive.driven.get i then now ≤ n else now < n).length

/-- R96: what cutting the coil now adds to the cut loss. -/
def State.cutLossOf (s : State) (i : CoilIx) : Nat :=
  if 0 < s.drive.density.get i then s.slotsLeft i * s.powerTaken i / 15 else 0

/-! ### Current targets (R54) -/

/-- The cache entry of a tag. -/
def cacheEntry (cache : List CacheEntry) (t : Tag) : Option CacheEntry := cache.find? fun e => e.tag = t

/-- The step of index `k`; a step index below the step count always names one. -/
def stepAt (steps : List Step) (k : Nat) : Step := steps.getD k { target := 0, duration := 0, loop := none }

/-- R54: the current target of a fragment. -/
def currentTarget (cache : List CacheEntry) (f : Fragment) : Nat :=
  match f.program with
  | none => 0
  | some p =>
    if p.done then 0
    else
      match cacheEntry cache f.tag with
      | none => 0
      | some e => (stepAt e.steps p.step).target

/-- R67: the coil is in a fragment whose current target is above 0. -/
def State.targeted (s : State) (i : CoilIx) : Bool :=
  s.tracker.pans.any fun f => f.coils.contains i && 0 < currentTarget s.cache f

/-! ### Freshness (R146) -/

inductive Freshness where
  | fresh
  | recent
  | gone
  deriving DecidableEq, Repr

/-- The freshness class of a roster entry. -/
def RosterEntry.freshness (e : RosterEntry) : Freshness :=
  if e.content.isNone then .gone
  else if e.age ≤ 3 then .fresh
  else if e.age ≤ 8 then .recent
  else .gone

/-- The left neighbour's position p − 1, where there is one. -/
def leftNeighbour (p : Position) : Option Position := if h : p.val = 0 then none else some ⟨p.val - 1, by omega⟩

/-- The right neighbour's position p + 1, where there is one. -/
def rightNeighbour (p : Position) : Option Position := if h : p.val < 7 then some ⟨p.val + 1, by omega⟩ else none

/-! ### Peer reports -/

/-- Reports of a tag with area above 0 in the peer fragment table. -/
def reportsOf (peers : List PeerEntry) (t : Tag) : List PeerEntry :=
  peers.filter fun e => e.report.tag = t && 0 < e.report.area

/-! ### Fault summary (R171) -/

/-- A fitted coil is latched (R121). -/
def State.coilLatched (s : State) : Bool := s.coils.toList.any fun c => c.fitted && c.faultRetries = 3

/-- R129. -/
def State.sensorFault (s : State) : Bool := s.sense.sinkFault || s.coils.toList.any fun c => c.fitted && c.sensorFault

/-- The numbers of the active conditions in priority order (Table 10-4). -/
def State.activeConditions (s : State) : List Nat :=
  [(1, s.timebase.mainsLost), (2, s.link.linkBlocked), (3, s.sense.sinkHot), (4, s.coilLatched), (5, s.sensorFault),
   (6, decide (s.drive.role = .refused)), (7, decide (s.drive.role = .lost)), (8, s.link.alone)].filterMap fun c =>
    if c.2 then some c.1 else none

end Sys2Proof.Machine
end

