-- ==== Sys2Proof/Machine/Ops.lean ====
section
/-! DEFINITION. The operations the meanings share: cutting drive, handing frames to the transmit queue, and the entries of
the module states. A block has no exception entry; the nearest thing, an entry of a module state, is one operation here. -/

namespace Sys2Proof.Machine

open Sys2Proof

/-- R172: a command has its effect only while the device is not held in reset. -/
def live (s : State) (f : State → State) : Result := .next (if s.sup.held then s else f s)

/-! ### Cutting drive (R96, R100 to R103, R118) -/

/-- Sets the density of every coil of `cut` to 0, turns its drive gates off, discards its half-cycle in flight and clears its
heating flag; the coils of `counted` among them add to the cut loss. -/
def State.cutSet (cut counted : CoilIx → Bool) (s : State) : State :=
  { s with
    drive :=
      { s.drive with
        density := s.drive.density.mapIx fun i n => if cut i then 0 else n
        driven := s.drive.driven.mapIx fun i b => !cut i && b
        highGate := s.drive.highGate.mapIx fun i b => !cut i && b
        lowGate := s.drive.lowGate.mapIx fun i b => !cut i && b
        cutLoss := min Config.shortfallTop
          (s.drive.cutLoss + (Eight.ofFn fun i => if cut i && counted i then s.cutLossOf i else 0).sum) }
    coils := s.coils.mapIx fun i c => { c with heating := !cut i && c.heating }
    sense := { s.sense with acc := s.sense.acc.mapIx fun i a => if cut i then Accumulator.clear else a } }

/-- R100: one coil is cut. -/
def State.cutCoil (i : CoilIx) (s : State) : State := s.cutSet (fun j => j = i) (fun _ => true)

/-- R102, R103: every coil is cut, at the onset of an inhibit or at a stop. -/
def State.cutAll (s : State) : State := s.cutSet (fun _ => true) (fun _ => true)

/-- R101, State: a driven density is withdrawn where the coil's state no longer allows it; IDLE adds nothing to the cut loss. -/
def State.withdrawByState (s : State) : State :=
  s.cutSet (fun i => 0 < s.drive.density.get i && undrivable (coilState (s.coils.get i)))
    (fun i => coilState (s.coils.get i) ≠ .idle)

/-- R101, Tracking update and Target: a density is withdrawn where no fragment with a current target above 0 holds the coil. -/
def State.withdrawUntargeted (s : State) : State :=
  s.cutSet (fun i => 0 < s.drive.density.get i && !s.targeted i) (fun _ => false)

/-! ### The transmit queue (R141 to R144) -/

/-- R142: the new frame replaces a waiting entry's payload in place, and is held as a contending entry's replacement. -/
def replaceFrame (key : Key) (payload : List Byte) (q : List QueueEntry) : List QueueEntry :=
  q.map fun e =>
    if e.key = key then
      if e.contending then { e with replacement := some payload } else { e with payload := payload }
    else e

/-- The entry of a key is in the queue. -/
def holdsKey (key : Key) (q : List QueueEntry) : Bool := q.any fun e => e.key = key

/-- The lowest urgency level among the waiting entries. -/
def lowestLevel (q : List QueueEntry) : Option Nat := ((q.filter fun e => !e.contending).map fun e => e.level).min?

/-- Drops the oldest waiting entry of a level. -/
def dropOldest (level : Nat) (q : List QueueEntry) : List QueueEntry := q.eraseP fun e => !e.contending && e.level = level

/-- One up in a link count, saturating at 255 (R149). -/
def bump (n : Nat) : Nat := satSucc Config.countTop n

/-- R142, R144: a frame is handed to the queue. -/
def Link.hand (key : Key) (level : Nat) (payload : List Byte) (l : Link) : Link :=
  let entry : QueueEntry := { key := key, level := level, payload := payload, contending := false, replacement := none }
  if holdsKey key l.queue then { l with queue := replaceFrame key payload l.queue }
  else if l.queue.length < Config.queueSize then { l with queue := l.queue ++ [entry] }
  else
    match lowestLevel l.queue with
    | none => { l with dropped := bump l.dropped }
    | some m =>
      if m < level then { l with queue := dropOldest m l.queue ++ [entry], dropped := bump l.dropped }
      else { l with dropped := bump l.dropped }

/-- A frame handed by another block. In SILENT it is discarded without counting (R150). -/
def State.hand (key : Key) (level : Nat) (payload : List Byte) (s : State) : State :=
  if s.sup.state = .silent then s else { s with link := s.link.hand key level payload }

/-- R44, R159: a notice is requested. -/
def State.notice (tag : Option Tag) (kind : NoticeKind) (detail : Nat) (s : State) : State :=
  s.hand (.notice tag kind) s.setup.noticeLevel (encodeNotice tag kind detail)

/-! ### The module status (R157) -/

/-- R141: in SETUP_FAULT the setup levels are not trusted, and a status takes level 1. -/
def State.statusLevel (s : State) : Nat := if s.setupGood then s.setup.statusLevel else 1

/-- R157: the content of a MODULE_STATUS formed now. Outside RUN D, G and M are 0 and the masks empty; the frequency is that of
the last hand-over, so that a rise of R98 since then is not reported (R98). -/
def State.status (s : State) : Status :=
  let run : Bool := s.sup.state = .run
  { stateCode := s.sup.state.code
    phase := if s.setupGood then s.setup.phase else .a
    causeCode := resetCauseCode s.sup.resetCause
    demand := if run then s.alloc.moduleDemand else 0
    grant := if run then s.alloc.moduleGrant else 0
    maximum := if run then s.alloc.moduleMax else 0
    frequency := s.drive.handedFrequency
    role := s.drive.role
    chainFloor := s.drive.lockFloor
    leftMask := if run then s.drive.leftMask else 0
    rightMask := if run then s.drive.rightMask else 0
    faultTop := s.activeConditions.headD 0
    faultCount := s.activeConditions.length
    byte12 :=
      match s.sup.state with
      | .setupFault => s.sup.faultCode
      | .stopped => s.sup.stopCause.code
      | _ => 0
    losses := s.link.losses
    rejects := s.link.rejects
    unheard := s.link.unheard
    dropped := s.link.dropped
    malformed := s.link.malformed
    shortfall := s.drive.published }

/-- R150: at the entry to STOPPED or QUIET a MODULE_STATUS in the queue is replaced by one formed at the entry. -/
def State.replaceStatus (s : State) : State :=
  { s with link := { s.link with queue := replaceFrame .status (encodeStatus s.status) s.link.queue } }

/-! ### What the module state entries do to the other blocks -/

/-- R6, R7: the sweep ends without writing the pair in flight; a pulse still on is cut with its capture unit. -/
def State.abortSweep (s : State) : State :=
  { s with probe := { s.probe with sweep := none, unit0 := Capture.off, unit1 := Capture.off } }

/-- R63, STOPPED and SILENT entry: the cache is emptied and every program state removed. -/
def State.dropPrograms (s : State) : State :=
  { s with
    cache := []
    tracker :=
      { s.tracker with
        pans := s.tracker.pans.map fun f => { f with program := none }
        lifted := s.tracker.lifted.map fun e => { e with program := none } } }

/-- R66: every figure of Table 4-1 becomes 0, and so they stay until a tracking update in RUN joins a program. -/
def State.zeroFigures (s : State) : State :=
  { s with
    alloc := Allocator.zero
    tracker := { s.tracker with pans := s.tracker.pans.map fun f => { f with share := 0 } } }

/-- R19, QUIET entry: what a fitted coil keeps and loses. -/
def quietCoil (su : CoilSetup) (c : Coil) : Coil :=
  if c.fitted then
    { c with presence := .absent, coverage := 0, floor := su.floor, liftSuspected := false, held := false, heating := false }
  else c

/-- R150, QUIET entry: waiting fragments and notices leave the queue, and a replacement held for a contending one. -/
def quietQueue (q : List QueueEntry) : List QueueEntry :=
  (q.filter fun e => e.contending || e.key = .status).map fun e =>
    if e.key = .status then e else { e with replacement := none }

/-- R166: the stop cause of a STOPPED module. -/
def State.causeNow (s : State) : StopCause := if s.sup.overvoltageDrive then .ownOvervolt else .external

/-- R166: entry to STOPPED. -/
def State.enterStopped (s : State) : State :=
  let s := s.cutAll.abortSweep.dropPrograms.zeroFigures
  { s with sup := { s.sup with state := .stopped, stopCause := s.causeNow } }.replaceStatus

/-- R167: entry to QUIET. The absence count is the caller's (it depends on where the entry comes from). -/
def State.enterQuiet (s : State) : State :=
  let s := s.cutAll.abortSweep.zeroFigures
  let s :=
    { s with
      coils := s.coils.mapIx fun i c => quietCoil (s.setup.coils.get i) c
      tracker := { s.tracker with pans := [], lifted := [] }
      cache := []
      link := { s.link with queue := quietQueue s.link.queue }
      sup := { s.sup with state := .quiet, lastPanel := .standby, stopCause := .none } }
  s.replaceStatus

/-- R163 to R165: an entry to QUIET that finds the line asserted enters STOPPED instead. -/
def State.enterQuietOrStopped (s : State) : State := if s.stopAsserted then s.enterStopped else s.enterQuiet

/-- R164: an entry to RUN clears nothing; it finds the line asserted and enters STOPPED instead. -/
def State.enterRunOrStopped (s : State) : State :=
  if s.stopAsserted then s.enterStopped else { s with sup := { s.sup with state := .run } }

/-- R170: entry to SILENT. -/
def State.enterSilent (s : State) : State :=
  let s := s.cutAll.abortSweep.dropPrograms.zeroFigures
  { s with
    sup := { s.sup with state := .silent }
    link := { s.link with queue := [], sending := none } }

/-- R170: a position clash reported to the Supervisor. In LOADING it is discarded, in SILENT it changes nothing. -/
def State.reportClash (s : State) : State :=
  match s.sup.state with
  | .loading => s
  | .silent => s
  | _ => s.enterSilent

/-- R168: a module in STOPPED leaves it, as no station drives the line any longer. -/
def State.leaveStopped (s : State) : State :=
  match s.sup.lastPanel with
  | .on => { s with sup := { s.sup with state := .run, stopCause := .none } }
  | .standby => s.enterQuiet

/-- R166, R168: what the sensed level of the stop line does to a module whose own or foreign drive of it has just changed. -/
def State.senseStop (s : State) : State :=
  if s.stopAsserted then
    match s.sup.state with
    | .quiet => s.enterStopped
    | .run => s.enterStopped
    | .stopped => { s with sup := { s.sup with stopCause := s.causeNow } }
    | _ => s
  else
    match s.sup.state with
    | .stopped => s.leaveStopped
    | _ => s

/-- R169: OVERVOLT reaches the Supervisor. The Drive Unit senses the assertion (R103). -/
def State.raiseOvervolt (s : State) : State :=
  let s := { s with sup := { s.sup with overvoltageDrive := true, clearRun := 0 } }
  s.cutAll.senseStop

/-- R169: the clear run reaches 16, and the module stops driving the line for overvoltage. -/
def State.endOvervoltageDrive (s : State) : State :=
  { s with sup := { s.sup with overvoltageDrive := false, clearRun := 0 } }.senseStop

/-- R169: the Supervisor takes a bus report while overvoltage drive is yes. -/
def State.takeBusReport (high : Bool) (s : State) : State :=
  if s.sup.overvoltageDrive then
    if high then { s with sup := { s.sup with clearRun := 0 } }
    else if s.sup.clearRun + 1 < 16 then { s with sup := { s.sup with clearRun := s.sup.clearRun + 1 } }
    else s.endOvervoltageDrive
  else s

/-- R88: MAINS_LOST is set and all drive inhibited (R102). -/
def State.setMainsLost (s : State) : State :=
  { s with timebase := { s.timebase with syntheticRun := 8, mainsLost := true } }.cutAll

/-- R145: LINK_BLOCKED is set and all drive inhibited (R102). -/
def State.setLinkBlocked (s : State) : State :=
  { s with link := { s.link with blockedCount := 5, linkBlocked := true } }.cutAll

end Sys2Proof.Machine
end

