-- ==== Sys2Proof/Machine/Programs.lean ====
section
/-! DEFINITION. The Setting Store (spec/03): the setting cache, program progress, the join and the following of the home, and
the commands PAN_SETTING (its taking), CACHE_EXPIRY and STEP_END. -/

namespace Sys2Proof.Machine

open Sys2Proof

/-! ### Program states -/

/-- R39, R49: a program at step 0 of a setting: full duration, loop counter unloaded, not done. -/
def startProgram (revision : Byte) (steps : List Step) : Program :=
  { revision := revision, step := 0, remaining := (stepAt steps 0).duration, loop := none, done := false }

/-- R56, Past the last step: the program is done. -/
def doneProgram (steps : List Step) (p : Program) : Program :=
  { p with step := steps.length - 1, remaining := 0, loop := none, done := true }

/-- R56: the program goes to step `k`, with that step's full duration. -/
def goToStep (steps : List Step) (k : Nat) (p : Program) : Program :=
  { p with step := k, remaining := (stepAt steps k).duration }

/-- R56, Fall through and Past the last step. -/
def fallThrough (steps : List Step) (p : Program) : Program :=
  if p.step + 1 < steps.length then goToStep steps (p.step + 1) p else doneProgram steps p

/-- R56: the current step ends. -/
def endStep (steps : List Step) (p : Program) : Program :=
  match (stepAt steps p.step).loop with
  | none => fallThrough steps p
  | some l =>
    let counter := p.loop.getD l.count
    if 0 < counter then { goToStep steps l.back p with loop := some (counter - 1) }
    else fallThrough steps { p with loop := none }

/-- R55: the current step of a program ends at its next second tick. -/
def stepEnds (steps : List Step) (p : Program) : Bool :=
  !p.done && 0 < (stepAt steps p.step).duration && p.remaining ≤ 1

/-- R55: one second tick of a program. -/
def tickProgram (steps : List Step) (p : Program) : Program :=
  if p.done then p
  else if (stepAt steps p.step).duration = 0 then p
  else if stepEnds steps p then endStep steps { p with remaining := 0 }
  else { p with remaining := p.remaining - 1 }

/-- R50: a program state kept on a refresh of equal revision, reconciled with the refreshed steps. -/
def reconcile (steps : List Step) (p : Program) : Program :=
  if p.done || steps.length ≤ p.step then doneProgram steps p
  else
    let d := (stepAt steps p.step).duration
    { p with remaining := if d < p.remaining then d else p.remaining }

/-- R60: a published state checked against the module's own cached setting. -/
def checkPublished (steps : List Step) (p : Program) : Program :=
  if p.done || steps.length ≤ p.step then doneProgram steps p
  else
    let d := (stepAt steps p.step).duration
    { p with remaining := if d < p.remaining then d else p.remaining }

/-! ### Notices (R58) -/

/-- R58: what the home requests as its program goes from `old` to `new` at the end of a step. -/
def State.progressNotice (e : CacheEntry) (new : Program) (s : State) : State :=
  if new.done then s.notice (some e.tag) .done new.step
  else
    match e.mode with
    | .eachStep => s.notice (some e.tag) .step new.step
    | .endOnly => s

/-! ### Taking a setting (R47 to R51) -/

/-- The tag is held by a fragment of the pan table or by an entry of the lifted list. -/
def State.tagHeld (s : State) (t : Tag) : Bool :=
  s.tracker.pans.any (fun f => f.tag = t) || s.tracker.lifted.any fun e => e.tag = t

/-- The new program state of a refreshed tag (R49 steps 3 and 4). -/
def refreshProgram (sameRevision : Bool) (e : CacheEntry) (p : Program) : Program :=
  if sameRevision then reconcile e.steps p else startProgram e.revision e.steps

/-- R49, R50: every program state of the entry's tag restarts or is reconciled. -/
def refreshTracker (sameRevision : Bool) (e : CacheEntry) (tr : Tracker) : Tracker :=
  { tr with
    pans := tr.pans.map fun f =>
      if f.tag = e.tag then { f with program := f.program.map (refreshProgram sameRevision e) } else f
    lifted := tr.lifted.map fun l =>
      if l.tag = e.tag then { l with program := l.program.map (refreshProgram sameRevision e) } else l }

/-- R49, R50, R58: what the home of the refreshed tag requests, from its program state before the refresh. -/
def State.refreshNotice (sameRevision : Bool) (e : CacheEntry) (s : State) : State :=
  match s.tracker.pans.find? fun f => f.tag = e.tag with
  | none => s
  | some f =>
    match f.program with
    | none => s
    | some p =>
      if !f.home then s
      else if sameRevision then
        if !p.done && e.steps.length ≤ p.step then s.notice (some e.tag) .done (e.steps.length - 1) else s
      else
        match e.mode with
        | .eachStep => s.notice (some e.tag) .step 0
        | .endOnly => s

/-- R49: the entry of the tag is refreshed in place, moved to the end of the refresh order. -/
def State.refreshSetting (old e : CacheEntry) (s : State) : State :=
  let same : Bool := old.revision = e.revision
  let s := s.refreshNotice same e
  let s := { s with cache := (s.cache.filter fun (x : CacheEntry) => !decide (x.tag = e.tag)) ++ [e], tracker := refreshTracker same e s.tracker }
  s.withdrawUntargeted

/-- R51: a new entry, evicting the least recently refreshed entry whose tag the module does not hold when the cache is full. -/
def State.appendSetting (e : CacheEntry) (s : State) : State :=
  if s.cache.length < Config.cacheSize then { s with cache := s.cache ++ [e] }
  else if s.cache.any fun (x : CacheEntry) => !s.tagHeld x.tag then
    { s with cache := (s.cache.eraseP fun (x : CacheEntry) => !s.tagHeld x.tag) ++ [e] }
  else { s with link := { s.link with dropped := bump s.link.dropped } }

/-- R47: a well-formed PAN_SETTING from a panel reaches the Setting Store. -/
def State.takeSetting (st : Setting) (s : State) : State :=
  if s.sup.state ≠ .run then s
  else
    match st.tag with
    | none => { s with link := { s.link with malformed := bump s.link.malformed } }
    | some t =>
      let e : CacheEntry := { tag := t, revision := st.revision, mode := st.mode, steps := st.steps, age := 0 }
      match cacheEntry s.cache t with
      | some old => s.refreshSetting old e
      | none => s.appendSetting e

/-! ### Joining and following (R39, R60) -/

/-- R39: of the home reports of the tag that carry the revision, the one with the greatest area, then the lowest source. -/
def betterHome (a b : PeerEntry) : PeerEntry :=
  if a.report.area < b.report.area then b
  else if b.report.area < a.report.area then a
  else if b.source < a.source then b
  else a

/-- The published program of a report that carries one. -/
def Report.program? (r : Report) : Option Program := r.published.map (·.program)

/-- R39: the report a fragment joins by, if any. -/
def joinReport (peers : List PeerEntry) (e : CacheEntry) : Option PeerEntry :=
  match (reportsOf peers e.tag).filter fun q => q.report.home && (q.report.program?.any fun p => p.revision = e.revision) with
  | [] => none
  | q :: qs => some (qs.foldl betterHome q)

/-- R39: the program state of a fragment that has none, when the cache holds its tag. -/
def joinProgram (peers : List PeerEntry) (e : CacheEntry) : Program :=
  match (joinReport peers e).bind fun q => q.report.program? with
  | some p => checkPublished e.steps p
  | none => startProgram e.revision e.steps

/-- R39, step 11 of the tracking update. -/
def joinFragment (cache : List CacheEntry) (peers : List PeerEntry) (f : Fragment) : Fragment :=
  match f.program with
  | some _ => f
  | none =>
    match cacheEntry cache f.tag with
    | none => f
    | some e => { f with program := some (joinProgram peers e) }

/-- R60: a fragment takes the state a home report publishes, when it runs the same revision and is not home itself. -/
def followFragment (cache : List CacheEntry) (r : Report) (f : Fragment) : Fragment :=
  if f.tag = r.tag && !f.home && r.home then
    match f.program, r.program?, cacheEntry cache f.tag with
    | some own, some p, some e =>
      if own.revision = p.revision then { f with program := some (checkPublished e.steps p) } else f
    | _, _, _ => f
  else f

/-- R60: a report stored in the peer fragment table reaches the Setting Store. -/
def State.followHome (r : Report) (s : State) : State :=
  if s.sup.state = .run then
    { s with tracker := { s.tracker with pans := s.tracker.pans.map (followFragment s.cache r) } }.withdrawUntargeted
  else s

/-! ### The second tick at the Setting Store (R52, R55 to R58) -/

/-- R52: the program states of a tag are removed from the pan table and the lifted list. -/
def removePrograms (gone : Tag → Bool) (tr : Tracker) : Tracker :=
  { tr with
    pans := tr.pans.map fun f => if gone f.tag then { f with program := none } else f
    lifted := tr.lifted.map fun l => if gone l.tag then { l with program := none } else l }

/-- R52: entries of the given tags leave the cache with every program state of their tags. -/
def State.expire (gone : Tag → Bool) (s : State) : State :=
  { s with
    cache := s.cache.filter fun e => !gone e.tag
    tracker := removePrograms gone s.tracker }

/-- R52: the entry of the tag would reach age 3 at its next second tick. -/
def expiring (cache : List CacheEntry) (t : Tag) : Bool :=
  match cacheEntry cache t with
  | none => false
  | some e => 2 ≤ e.age

/-- R52: every entry ages by one, and those that reach 3 are removed. -/
def State.ageCache (s : State) : State :=
  let s' := s.expire (expiring s.cache)
  { s' with cache := s'.cache.map fun e => { e with age := e.age + 1 } }

/-- R55: the program of a fragment after a second tick. -/
def tickFragment (cache : List CacheEntry) (f : Fragment) : Fragment :=
  match f.program, cacheEntry cache f.tag with
  | some p, some e => { f with program := some (tickProgram e.steps p) }
  | _, _ => f

/-- R58: what a home fragment requests at a second tick at which its step ends. -/
def State.tickNotice (f : Fragment) (s : State) : State :=
  match f.program, cacheEntry s.cache f.tag with
  | some p, some e => if f.home && stepEnds e.steps p then s.progressNotice e (tickProgram e.steps p) else s
  | _, _ => s

/-- R55 to R58: every program of the pan table advances. R58 gives the requests of several home fragments at one second tick no order;
the model hands them to the queue in the order of the pan table, its own choice, which shows in the queue and in what a full queue drops
(DESIGN CHOICE, log entry 34). -/
def State.tickPrograms (s : State) : State :=
  let s' := s.tracker.pans.foldl (fun s f => s.tickNotice f) s
  { s' with tracker := { s'.tracker with pans := s'.tracker.pans.map (tickFragment s.cache) } }

/-! ### The commands of the Setting Store that name one object (log entry 4) -/

/-- R52: the entry of the tag, at age 2, reaches age 3. -/
def State.cacheExpiry (tag : Tag) (s : State) : State :=
  if s.sup.state = .run && expiring s.cache tag then (s.expire fun t => t = tag).withdrawUntargeted else s

/-- CACHE_EXPIRY. -/
def execCacheExpiry (tag : Tag) (s : State) : Result := live s (State.cacheExpiry tag)

/-- R55, R56: the step of the tag's program, in its last second, ends. -/
def State.stepEnd (tag : Tag) (s : State) : State :=
  match s.tracker.pans.find? fun f => f.tag = tag with
  | none => s
  | some f =>
    match f.program, cacheEntry s.cache tag with
    | some p, some e =>
      if s.sup.state = .run && stepEnds e.steps p then
        let s := s.tickNotice f
        let pans := s.tracker.pans.map fun g => if g.tag = tag then tickFragment s.cache g else g
        { s with tracker := { s.tracker with pans := pans } }.withdrawUntargeted
      else s
    | _, _ => s

/-- STEP_END. -/
def execStepEnd (tag : Tag) (s : State) : Result := live s (State.stepEnd tag)

end Sys2Proof.Machine
end

