-- ==== Sys2Proof/Machine/Tracking.lean ====
section
/-! DEFINITION. The Pan Tracker (spec/02): the twelve steps of the tracking update, the lifted entries between updates, and the
command GRACE_EXPIRY. -/

namespace Sys2Proof.Machine

open Sys2Proof

/-! ### Step 1: components (R26) -/

/-- Four-neighbour adjacency inside the module (00_scope, Coil indexing). -/
def adjacentCoils (i j : CoilIx) : Bool :=
  (i.val / 4 = j.val / 4 && (i.val + 1 = j.val || j.val + 1 = i.val)) || i.val + 4 = j.val || j.val + 4 = i.val

/-- The coils of a set and their covered neighbours. -/
def growSet (covered : CoilIx → Bool) (set : List CoilIx) : List CoilIx :=
  allCoils.filter fun j => covered j && (set.contains j || set.any fun i => adjacentCoils i j)

/-- `n` rounds of growing. -/
def growRounds (covered : CoilIx → Bool) : Nat → List CoilIx → List CoilIx
  | 0, set => set
  | n + 1, set => growRounds covered n (growSet covered set)

/-- The covered coils connected to a covered coil. Eight coils are connected in at most seven rounds. -/
def componentOf (covered : CoilIx → Bool) (i : CoilIx) : List CoilIx := growRounds covered 7 [i]

/-- R26: the components, in order of the lowest coil index each contains. -/
def coilComponents (covered : CoilIx → Bool) : List (List CoilIx) :=
  (allCoils.filter fun i => covered i && (componentOf covered i).head? = some i).map (componentOf covered)

/-- The sum of the coverages of a coil set. -/
def areaOf (coils : Eight Coil) (set : List CoilIx) : Nat := (set.map fun i => (coils.get i).coverage).sum

/-- How many coils two sets share. -/
def sharedCoils (a b : List CoilIx) : Nat := (a.filter fun i => b.contains i).length

/-- A component on its way to a fragment. -/
structure Component where
  coils : List CoilIx
  area : Nat
  tag : Option Tag
  origin : Origin
  program : Option Program
  home : Bool
  contact : Bool
  panContact : Bool
  deriving DecidableEq, Repr

/-- A component as step 1 leaves it: untagged. -/
def untaggedComponent (coils : Eight Coil) (set : List CoilIx) : Component :=
  { coils := set, area := areaOf coils set, tag := none, origin := .new, program := none, home := false, contact := false,
    panContact := false }

/-! ### Step 2: own history (R27, R28) -/

/-- R27: which of two previous fragments is the better candidate for a coil set. -/
def betterFragment (set : List CoilIx) (a b : Fragment) : Fragment :=
  if sharedCoils a.coils set < sharedCoils b.coils set then b
  else if sharedCoils b.coils set < sharedCoils a.coils set then a
  else if a.program.isSome && b.program.isNone then a
  else if a.program.isNone && b.program.isSome then b
  else if b.tag.lower a.tag then b
  else a

/-- R27: the candidate of a coil set among the previous fragments. -/
def candidateOf (previous : List Fragment) (set : List CoilIx) : Option Fragment :=
  match previous.filter fun f => 0 < sharedCoils f.coils set with
  | [] => none
  | f :: fs => some (fs.foldl (betterFragment set) f)

/-- R28: another coil set that names the same candidate takes its tag before this one does. -/
def outranks (f : Fragment) (other set : List CoilIx) : Bool :=
  sharedCoils f.coils set < sharedCoils f.coils other ||
    (sharedCoils f.coils set = sharedCoils f.coils other &&
      match other.head?, set.head? with
      | some a, some b => decide (a < b)
      | _, _ => false)

/-- R27, R28: a component takes the tag of its candidate unless another component of the split takes it. -/
def ownHistory (previous : List Fragment) (sets : List (List CoilIx)) (c : Component) : Component :=
  match candidateOf previous c.coils with
  | none => c
  | some f =>
    if sets.any fun other =>
        ((candidateOf previous other).any fun g => g.tag = f.tag) && outranks f other c.coils then c
    else
      { c with
        tag := some f.tag, origin := .tracked, program := f.program, home := f.home, contact := f.contact,
        panContact := f.panContact }

/-! ### Steps 3 and 6: across the boundary (R29, R32) -/

/-- R29: the report faces a coil of the set with an edge coverage of 24 or more. `own` further tests the facing coil. -/
def facesReport (position : Position) (own : CoilIx → Bool) (set : List CoilIx) (e : PeerEntry) : Bool :=
  0 < e.report.area &&
    ((leftNeighbour position = some e.source &&
        allRows.any fun r =>
          set.contains (leftCoil r) && own (leftCoil r) && Config.edgeThreshold ≤ e.report.edge.get (rightCoil r)) ||
      (rightNeighbour position = some e.source &&
        allRows.any fun r =>
          set.contains (rightCoil r) && own (rightCoil r) && Config.edgeThreshold ≤ e.report.edge.get (leftCoil r)))

/-- R29: of two offering reports, the one that carries a program, then the lower tag. -/
def betterOffer (a b : Report) : Report :=
  if a.published.isSome && b.published.isNone then a
  else if a.published.isNone && b.published.isSome then b
  else if b.tag.lower a.tag then b
  else a

/-- R29, step 3: an untagged component takes a tag from a facing neighbour edge report. -/
def neighbourEdge (position : Position) (peers : List PeerEntry) (c : Component) : Component :=
  match c.tag with
  | some _ => c
  | none =>
    match (peers.filter (facesReport position (fun _ => true) c.coils)).map (·.report) with
    | [] => c
    | r :: rs => { c with tag := some (rs.foldl betterOffer r).tag, origin := .carried }

/-! ### Step 4: the lifted list (R30) -/

/-- R30: of two qualifying entries, the one sharing more coils, then with more grace, then with the lower tag. -/
def betterLifted (set : List CoilIx) (a b : LiftedEntry) : LiftedEntry :=
  if sharedCoils a.footprint set < sharedCoils b.footprint set then b
  else if sharedCoils b.footprint set < sharedCoils a.footprint set then a
  else if a.grace < b.grace then b
  else if b.grace < a.grace then a
  else if b.tag.lower a.tag then b
  else a

/-- R30: the lifted entry a coil set resumes. -/
def resumable (lifted : List LiftedEntry) (set : List CoilIx) : Option LiftedEntry :=
  match lifted.filter fun e => 0 < sharedCoils e.footprint set with
  | [] => none
  | e :: es => some (es.foldl (betterLifted set) e)

/-- A notice request of the update: tag and kind; the detail of Table 2-5 is 0. -/
abbrev Request := Tag × NoticeKind

/-- What steps 4 and 5 thread from component to component. -/
structure Tagging where
  comps : List Component
  lifted : List LiftedEntry
  serial : Fin 4096
  requests : List Request
  deriving DecidableEq, Repr

/-- R30, step 4, one component. -/
def resumeOne (t : Tagging) (c : Component) : Tagging :=
  match c.tag with
  | some _ => { t with comps := t.comps ++ [c] }
  | none =>
    match resumable t.lifted c.coils with
    | none => { t with comps := t.comps ++ [c] }
    | some e =>
      { t with
        comps := t.comps ++ [{ c with tag := some e.tag, origin := .resumed, program := e.program }]
        lifted := t.lifted.filter fun x => x.tag ≠ e.tag
        requests := t.requests ++ if e.confirmed && e.wasHome then [(e.tag, .returned)] else [] }

/-! ### Step 5: new tags (R22, R31) -/

/-- R22: the serial after `s`; 4095 is followed by 1. -/
def nextSerial (s : Fin 4096) : Fin 4096 := if s.val = 4095 then 1 else s + 1

/-- R22: the first free serial from `s` on; the search ends within twelve tests. -/
def freeSerial (used : Fin 4096 → Bool) : Nat → Fin 4096 → Fin 4096
  | 0, s => s
  | n + 1, s => if used s then freeSerial used n (nextSerial s) else s

/-- R22: a tag of this module is held by the previous table, by a component already tagged, or by the lifted list. -/
def tagInUse (previous : List Fragment) (comps : List Component) (lifted : List LiftedEntry) (t : Tag) : Bool :=
  previous.any (fun f => f.tag = t) || comps.any (fun c => c.tag = some t) || lifted.any fun e => e.tag = t

/-- R31, step 5, one component; `rest` are the components still to come. -/
def newTagOne (position : Position) (previous : List Fragment) (rest : List Component) (t : Tagging) (c : Component) : Tagging :=
  match c.tag with
  | some _ => { t with comps := t.comps ++ [c] }
  | none =>
    let used := fun s => tagInUse previous (t.comps ++ rest) t.lifted { creator := position, serial := s }
    let s := freeSerial used 12 t.serial
    let tag : Tag := { creator := position, serial := s }
    { t with
      comps :=
        t.comps ++
          [{ c with tag := some tag, origin := .new, program := none, home := false, contact := false, panContact := false }]
      serial := nextSerial s
      requests := t.requests ++ [(tag, .appeared)] }

/-- R31, step 5, in component order. -/
def newTags (position : Position) (previous : List Fragment) : List Component → Tagging → Tagging
  | [], t => t
  | c :: rest, t => newTags position previous rest (newTagOne position previous rest t c)

/-! ### Step 6: seniority (R32, R33) -/

/-- R32: the reports a component touches: facing, with its own coil at 24 or more too, and of another tag. -/
def touchedReports (position : Position) (coils : Eight Coil) (peers : List PeerEntry) (c : Component) : List Report :=
  ((peers.filter (facesReport position (fun i => Config.edgeThreshold ≤ (coils.get i).coverage) c.coils)).map (·.report)).filter
    fun r => c.tag ≠ some r.tag

/-- The lowest tag of a list that starts with `t`. -/
def lowestTag (t : Tag) (ts : List Tag) : Tag := ts.foldl (fun a b => if b.lower a then b else a) t

/-- R32: a component lets its own tag go for `tag`. -/
def adoptTag (tag : Tag) (c : Component) : Component :=
  { c with tag := some tag, origin := .carried, home := false, panContact := false }

/-- R32, Table 2-4, and R33: the seniority decision of a component with tag `own`, from the reports it touches. -/
def seniority (touched : List Report) (own : Tag) (c : Component) : Component :=
  let withProgram := touched.filter fun r => r.published.isSome
  let c := { c with contact := c.program.isSome && !withProgram.isEmpty }
  if c.program.isSome then c
  else
    match withProgram with
    | r :: rs => adoptTag (lowestTag r.tag (rs.map (·.tag))) c
    | [] =>
      let lowest := lowestTag own (touched.map (·.tag))
      if lowest = own then c else adoptTag lowest c

/-- Step 6 for one component. -/
def seniorityOf (position : Position) (coils : Eight Coil) (peers : List PeerEntry) (c : Component) : Component :=
  match c.tag with
  | none => c
  | some own => seniority (touchedReports position coils peers c) own c

/-! ### Step 7: fragments (R34) -/

/-- R34: the precedence of origins. -/
def Origin.rank : Origin → Nat
  | .tracked => 0
  | .resumed => 1
  | .carried => 2
  | .new => 3

/-- R34: the part whose origin and program state a joined fragment takes: of equal origins the earlier. -/
def leadingPart (a b : Component) : Component := if b.origin.rank < a.origin.rank then b else a

/-- R34: the fragment of the components `c :: cs`, which hold one tag. The share is that of R64. -/
def joinComponents (coils : Eight Coil) (previous : List Fragment) (tag : Tag) (c : Component) (cs : List Component) : Fragment :=
  let lead := cs.foldl leadingPart c
  let set := allCoils.filter fun i => (c :: cs).any fun x => x.coils.contains i
  { tag := tag
    coils := set
    area := areaOf coils set
    edge := Eight.ofFn fun i => if set.contains i then (coils.get i).coverage else 0
    origin := lead.origin
    program := lead.program
    home := lead.home
    contact := (c :: cs).any fun x => x.contact
    panContact := lead.panContact
    share :=
      match previous.find? fun f => f.tag = tag with
      | some f => f.share
      | none => 0 }

/-- R34, step 7: one fragment for each distinct tag, in order of the lowest coil index. `seen` are the tags already joined. -/
def joinByTag (coils : Eight Coil) (previous : List Fragment) : List Tag → List Component → List Fragment
  | _, [] => []
  | seen, c :: cs =>
    match c.tag with
    | none => joinByTag coils previous seen cs
    | some t =>
      if seen.contains t then joinByTag coils previous seen cs
      else joinComponents coils previous t c (cs.filter fun x => x.tag = some t) :: joinByTag coils previous (t :: seen) cs

/-! ### Step 8: released tags (R35, R36) -/

/-- R36: the lifted entry of a released tag. -/
def liftedEntryOf (peers : List PeerEntry) (pans : List Fragment) (f : Fragment) : LiftedEntry :=
  { tag := f.tag
    footprint := f.coils
    program := f.program
    grace := Config.graceTicks
    wasHome := f.home
    cause := if pans.any fun g => 0 < sharedCoils g.coils f.coils then .merged else .lifted
    confirmed := (reportsOf peers f.tag).isEmpty }

/-- The notice of an entry's cause. -/
def LiftCause.notice : LiftCause → NoticeKind
  | .lifted => .lifted
  | .merged => .merged

/-- R35: the previous fragments whose tag no fragment of the new table holds. -/
def releasedOf (previous pans : List Fragment) : List Fragment := previous.filter fun f => !pans.any fun g => g.tag = f.tag

/-- R35, R36: the entries of step 8. A tag given up at step 6 (`abandoned`) and a tag without a program state leave none. -/
def enteringOf (peers : List PeerEntry) (pans : List Fragment) (abandoned : List Tag) (released : List Fragment) :
    List LiftedEntry :=
  (released.filter fun f => f.program.isSome && !abandoned.contains f.tag).map (liftedEntryOf peers pans)

/-- The notice an entry requests as it is confirmed (R36, R37, R42). -/
def confirmRequest (e : LiftedEntry) : List Request := if e.wasHome then [(e.tag, e.cause.notice)] else []

/-! ### Step 9: upkeep of the lifted list (R37) -/

/-- R37, Same-tag removal: a fragment without a program state takes that of the entry of its tag. -/
def reclaimProgram (lifted : List LiftedEntry) (f : Fragment) : Fragment :=
  match f.program with
  | some _ => f
  | none =>
    match lifted.find? fun e => e.tag = f.tag with
    | some e => { f with program := e.program }
    | none => f

/-- R37, Capacity: the entry that goes next: the least grace, among equal grace the oldest. -/
def nextEvicted : LiftedEntry → List LiftedEntry → LiftedEntry
  | e, [] => e
  | e, x :: xs => nextEvicted (if x.grace < e.grace then x else e) xs

/-- R37, Capacity: entries are evicted until the list holds 4; an evicted entry requests GONE if it was confirmed and
was-home is set. The first argument bounds the number of evictions. -/
def evictLifted : Nat → List LiftedEntry → List LiftedEntry × List Request
  | 0, l => (l, [])
  | n + 1, l =>
    match l with
    | [] => ([], [])
    | e :: es =>
      if l.length ≤ Config.liftedListSize then (l, [])
      else
        let v := nextEvicted e es
        let r := evictLifted n (l.erase v)
        (r.1, (if v.confirmed && v.wasHome then [(v.tag, .gone)] else []) ++ r.2)

/-! ### Step 10: home and contact (R38, R59) -/

/-- R59: the home rule. -/
def isHome (position : Position) (area : Nat) (reports : List PeerEntry) : Bool :=
  reports.all fun e => e.report.area < area || (e.report.area = area && position < e.source)

/-- R38, R59: home and pan contact flags of a fragment. -/
def homeAndContact (position : Position) (peers : List PeerEntry) (f : Fragment) : Fragment :=
  let reports := reportsOf peers f.tag
  { f with
    home := isHome position f.area reports
    panContact := f.contact || reports.any fun e => e.report.contact }

/-- R38: the CONTACT request of a fragment, from its flags before and after step 10. -/
def contactRequest (before after : Fragment) : List Request :=
  if after.home && !before.panContact && after.panContact then [(after.tag, .contact)] else []

/-! ### Step 12: reports (R40, R155) -/

/-- R40, R155: what a fragment reports. -/
def reportOf (cache : List CacheEntry) (f : Fragment) : Report :=
  { tag := f.tag
    area := f.area
    edge := f.edge
    published := f.program.map fun p => { program := p, target := currentTarget cache f }
    home := f.home
    contact := f.contact }

/-- R45, R155: what a frozen fragment reports: its program fields are 0. -/
def frozenReportOf (f : Fragment) : Report :=
  { tag := f.tag, area := f.area, edge := f.edge, published := none, home := f.home, contact := f.contact }

/-- A FRAGMENT report is handed to the queue. -/
def State.handReport (r : Report) (s : State) : State := s.hand (.fragment r.tag) s.setup.fragmentLevel (encodeReport r)

/-- A closed FRAGMENT is handed to the queue. -/
def State.handClosed (t : Tag) (s : State) : State := s.hand (.fragment t) s.setup.fragmentLevel (encodeClosed t)

/-- R40, step 12: the reports, the closed reports, then the requests in the order of the steps that made them. Among the reports, the
closed reports and the requests of one step the order is that of the list, the model's choice (DESIGN CHOICE, log entry 34). -/
def State.sendUpdate (closed : List Tag) (requests : List Request) (s : State) : State :=
  let s := s.tracker.pans.foldl (fun s' f => s'.handReport (reportOf s.cache f)) s
  let s := closed.foldl (fun s' t => s'.handClosed t) s
  requests.foldl (fun s' r => s'.notice (some r.1) r.2 0) s

/-! ### The update (R25) -/

/-- The coils in a covered-class state. -/
def State.coveredCoil (s : State) (i : CoilIx) : Bool := (s.coils.get i).coveredClass

/-- Steps 1 to 3: the components with the tags of their own history and of the neighbour edge. -/
def State.historyComponents (s : State) : List Component :=
  let sets := coilComponents s.coveredCoil
  (sets.map (untaggedComponent s.coils)).map fun c =>
    neighbourEdge s.sup.position s.link.peers (ownHistory s.tracker.pans sets c)

/-- Steps 4 and 5: every component tagged. -/
def State.tagComponents (s : State) : Tagging :=
  let t4 := s.historyComponents.foldl resumeOne
    { comps := [], lifted := s.tracker.lifted, serial := s.tracker.serial, requests := [] }
  newTags s.sup.position s.tracker.pans t4.comps { t4 with comps := [] }

/-- What steps 6 to 11 leave. -/
structure UpdateResult where
  pans : List Fragment
  lifted : List LiftedEntry
  serial : Fin 4096
  closed : List Tag
  requests : List Request
  /-- Step 11 has joined a fragment to a program. -/
  joined : Bool
  deriving DecidableEq, Repr

/-- Steps 1 to 11 of the tracking update. The GONE of a capacity eviction is one of its requests and so goes out at step 12, after
the entry's LIFTED or MERGED (R37; Table 2-3, note 2), where R44 names an eviction among what is requested at once: the model's
choice (log entry 32). -/
def State.runUpdate (s : State) : UpdateResult :=
  let peers := s.link.peers
  let t := s.tagComponents
  let senior := t.comps.map (seniorityOf s.sup.position s.coils peers)
  let abandoned := (t.comps.filterMap (·.tag)).filter fun x => !senior.any fun c => c.tag = some x
  let joined := joinByTag s.coils s.tracker.pans [] senior
  let released := releasedOf s.tracker.pans joined
  let entering := enteringOf peers joined abandoned released
  let requests8 := (entering.filter (·.confirmed)).flatMap confirmRequest
  let lifted8 := t.lifted ++ entering
  let same := lifted8.filter fun e => joined.any fun f => f.tag = e.tag
  let requests9a := same.flatMap fun e => if e.confirmed && e.wasHome then [(e.tag, NoticeKind.returned)] else []
  let reclaimed := joined.map (reclaimProgram same)
  let kept := lifted8.filter fun e => !joined.any fun f => f.tag = e.tag
  let late := fun (e : LiftedEntry) => !e.confirmed && (reportsOf peers e.tag).isEmpty
  let requests9b := (kept.filter late).flatMap confirmRequest
  let evicted := evictLifted kept.length (kept.map fun e => { e with confirmed := e.confirmed || late e })
  let homed := reclaimed.map (homeAndContact s.sup.position peers)
  let requests10 := (reclaimed.zip homed).flatMap fun x => contactRequest x.1 x.2
  let pans := homed.map (joinFragment s.cache peers)
  { pans := pans
    lifted := evicted.1
    serial := t.serial
    closed := released.map (·.tag)
    requests := t.requests ++ requests8 ++ requests9a ++ requests9b ++ evicted.2 ++ requests10
    joined := (homed.zip pans).any fun x => x.1.program.isNone && x.2.program.isSome }

/-- R25: the tracking update, and the withdrawals that follow it (R101). A join lets the Allocator compute (R66). -/
def State.trackingUpdate (s : State) : State :=
  let u := s.runUpdate
  let s :=
    { s with
      tracker := { pans := u.pans, lifted := u.lifted, serial := u.serial }
      alloc := { s.alloc with joined := s.alloc.joined || u.joined } }
  (s.sendUpdate u.closed u.requests).withdrawUntargeted

/-! ### Lifted entries between updates (R41 to R43) -/

/-- R42: the peer fragment table holds no report of the tag with area above 0: unconfirmed entries of the tag are confirmed. -/
def State.confirmIfGone (t : Tag) (s : State) : State :=
  if s.sup.state = .run && (reportsOf s.link.peers t).isEmpty then
    let due := s.tracker.lifted.filter fun e => e.tag = t && !e.confirmed
    let lifted := s.tracker.lifted.map fun e => if e.tag = t then { e with confirmed := true } else e
    let s := { s with tracker := { s.tracker with lifted := lifted } }
    (due.flatMap confirmRequest).foldl (fun s' r => s'.notice (some r.1) r.2 0) s
  else s

/-- R41: a report of the tag with area above 0 has been stored: the lifted entry of the tag is removed. -/
def State.departIfLifted (t : Tag) (s : State) : State :=
  if s.sup.state = .run then
    let gone := s.tracker.lifted.filter fun e => e.tag = t
    let s := { s with tracker := { s.tracker with lifted := s.tracker.lifted.filter fun e => e.tag ≠ t } }
    (gone.filter fun e => e.confirmed && e.wasHome).foldl (fun s' e => s'.notice (some e.tag) .returned 0) s
  else s

/-- R43: the GONE notices of entries that run out, in the order of the lifted list, the model's choice (DESIGN CHOICE, log entry 34), and
their removal. -/
def State.runOut (out : LiftedEntry → Bool) (s : State) : State :=
  let gone := s.tracker.lifted.filter out
  let s := { s with tracker := { s.tracker with lifted := s.tracker.lifted.filter fun e => !out e } }
  (gone.filter fun e => e.confirmed && e.wasHome).foldl (fun s' e => s'.notice (some e.tag) .gone 0) s

/-- R43: at a second tick every lifted entry loses one unit of grace; an entry whose grace reaches 0 is removed. -/
def State.tickGrace (s : State) : State :=
  let s := s.runOut fun e => e.grace ≤ 1
  { s with tracker := { s.tracker with lifted := s.tracker.lifted.map fun e => { e with grace := e.grace - 1 } } }

/-- R43: the lifted entry of the tag, in its last unit of grace, runs out (log entry 4). -/
def State.graceExpiry (tag : Tag) (s : State) : State :=
  if s.sup.state = .run then s.runOut fun e => e.tag = tag && e.grace ≤ 1 else s

/-- GRACE_EXPIRY. -/
def execGraceExpiry (tag : Tag) (s : State) : Result := live s (State.graceExpiry tag)

/-! ### Frozen reports (R45) -/

/-- R45: at a window start in STOPPED a FRAGMENT frame is queued for every frozen fragment, in the order of the pan table, the model's
choice (DESIGN CHOICE, log entry 34). -/
def State.reportFrozen (s : State) : State :=
  if s.sup.state = .stopped then s.tracker.pans.foldl (fun s' f => s'.handReport (frozenReportOf f)) s else s

end Sys2Proof.Machine
end

