-- ==== Sys2Proof/Machine/Probing.lean ====
section
/-! DEFINITION. The Probe Engine and the Coil Table's side of a probe (spec/01, R98): the sweep, the ring capture units, the
probe result, and the commands PROBE_PULSE_END, RING_MARK, RING_DECAYED and TIME_LIMIT. -/

namespace Sys2Proof.Machine

open Sys2Proof

/-! ### Pairs (Table 1-1) -/

/-- The coil on RD0. -/
def firstCoil (p : Fin 4) : CoilIx := ⟨p.val, by omega⟩

/-- The coil on RD1. -/
def secondCoil (p : Fin 4) : CoilIx := ⟨(p.val + 2) % 4 + 4, by omega⟩

/-- The coil a detector watches in a pair. -/
def detectorCoil (p : Fin 4) (d : Fin 2) : CoilIx := if d = 0 then firstCoil p else secondCoil p

/-- The capture unit of a detector. -/
def Probe.capture (p : Probe) (d : Fin 2) : Capture := if d = 0 then p.unit0 else p.unit1

/-- The capture unit of a detector changed. -/
def Probe.setCapture (p : Probe) (d : Fin 2) (c : Capture) : Probe :=
  if d = 0 then { p with unit0 := c } else { p with unit1 := c }

/-! ### The capture unit (R3, R4) -/

/-- R1: at the start of a pair a fitted coil's unit is in its pulse; an unfitted coil's probe counts as ended. -/
def startCapture (fitted : Bool) : Capture := { Capture.off with phase := if fitted then .pulse else .ended }

/-- R3: the ring count K, the number of full cycles ended. -/
def Capture.ringCount (c : Capture) : Nat := (c.marks - 1) / 2

/-- R4: the ring period P, absent for K below 2, at most 2000 ticks. -/
def Capture.ringPeriod (c : Capture) : Option Nat :=
  if 2 ≤ c.ringCount then some (min 2000 ((c.cycleEnd - c.firstMark) / c.ringCount)) else none

/-- R3: a mark during the pulse, or less than 100 ticks after its end or after the last accepted mark, is not accepted. -/
def Capture.accepts (c : Capture) (time : Nat) : Bool :=
  c.phase = .ringing && c.pulseEnd + Config.markGuard ≤ time &&
    (c.marks = 0 || c.lastMark + Config.markGuard ≤ time)

/-- R3, R4: an accepted mark. Mark 0 starts the count, mark 2k ends full cycle k, and full cycle 31 ends the probe. -/
def Capture.mark (c : Capture) (time : Nat) : Capture :=
  { c with
    firstMark := if c.marks = 0 then time else c.firstMark
    lastMark := time
    marks := c.marks + 1
    cycleEnd := if 0 < c.marks && c.marks % 2 = 0 then time else c.cycleEnd
    phase := if c.marks = 2 * Config.fullCount then .ended else c.phase }

/-- R4: a ringing coil's probe ends. -/
def Capture.finish (c : Capture) : Capture := if c.phase = .ringing then { c with phase := .ended } else c

/-- R2: the compare match ends the pulse. -/
def Capture.endPulse (c : Capture) (time : Nat) : Capture :=
  if c.phase = .pulse then { c with phase := .ringing, pulseEnd := time } else c

/-! ### The probe result (R11 to R15) -/

/-- R11: the coverage from a ring count. -/
def probeCoverage (su : CoilSetup) (k : Nat) : Nat := min 64 (64 * (su.emptyCount - k) / (su.emptyCount - su.fullCount))

/-- R12: the material check. -/
def materialPasses (su : CoilSetup) (period : Option Nat) : Bool :=
  match period with
  | none => true
  | some p => su.emptyPeriod * 60 ≤ p * 64

/-- R13: the floor from a ring period. -/
def probeFloor (su : CoilSetup) (period : Option Nat) : Nat :=
  clampNat Config.lowestFrequency Config.highestFrequency
    (match period with
    | none => su.floor
    | some p => max su.floor (ceilDiv 32000 p + 4))

/-- R14, Table 1-4: the presence after a probe result. `judged` says whether the material check is applied. -/
def nextPresence (judged passes : Bool) (before : Presence) (coverage : Nat) : Presence :=
  if judged then
    if !passes then .nonferrous
    else
      match before with
      | .pan => if Config.keepThreshold ≤ coverage then .pan else .absent
      | _ => if Config.edgeThreshold ≤ coverage then .pan else .absent
  else if Config.keepThreshold ≤ coverage then .pan
  else .absent

/-- R14, step 2: a coil that is HOT or FAULTED is not judged. -/
def judgesMaterial (c : Coil) : Bool := coilState c ≠ .hot && coilState c ≠ .faulted

/-- R14: the coil record after a result of ring count `k` and ring period `period`. -/
def takeResult (su : CoilSetup) (k : Nat) (period : Option Nat) (c : Coil) : Coil :=
  { c with
    coverage := probeCoverage su k
    floor := probeFloor su period
    liftSuspected := false
    presence := nextPresence (judgesMaterial c) (materialPasses su period) c.presence (probeCoverage su k) }

/-- R15: the tag of the fragment that holds a coil. -/
def State.tagOfCoil (s : State) (i : CoilIx) : Option Tag :=
  (s.tracker.pans.find? fun f => f.coils.contains i).map (·.tag)

/-- R15: a change of presence to NONFERROUS requests UNSUITABLE. -/
def State.unsuitableNotice (i : CoilIx) (before : Coil) (s : State) : State :=
  if before.presence ≠ .nonferrous && (s.coils.get i).presence = .nonferrous then
    s.notice (s.tagOfCoil i) .unsuitable i.val
  else s

/-- R98: the frequency rises at once to a heating coil's new floor. -/
def State.raiseFrequency (i : CoilIx) (s : State) : State :=
  if (s.coils.get i).heating && s.drive.frequency < (s.coils.get i).floor then
    { s with drive := { s.drive with frequency := (s.coils.get i).floor } }
  else s

/-- R14, R15, R98, R101: the result of a fitted coil reaches the Coil Table. -/
def State.takeProbe (i : CoilIx) (c : Capture) (s : State) : State :=
  if (s.coils.get i).fitted then
    let before := s.coils.get i
    let s := { s with coils := s.coils.update i (takeResult (s.setup.coils.get i) c.ringCount c.ringPeriod) }
    ((s.unsuitableNotice i before).raiseFrequency i).withdrawByState
  else s

/-! ### The sweep (R1, R5) -/

/-- R2, R161: the pulse's compare value, 16 ticks a µs of probe width. -/
def State.pulseWidth (s : State) : Nat := 16 * s.setup.probeWidth

/-- R1, R2: a pair starts: its fitted coils are in their pulse, its unfitted ones have ended. -/
def State.startPair (p : Fin 4) (s : State) : State :=
  { s with
    probe :=
      { sweep := some p
        unit0 := startCapture (s.coils.get (firstCoil p)).fitted
        unit1 := startCapture (s.coils.get (secondCoil p)).fitted
        pulseTicks := s.pulseWidth } }

/-- Both probes of the pair in flight have ended. -/
def Probe.pairEnded (p : Probe) : Bool := p.unit0.phase = .ended && p.unit1.phase = .ended

/-- R5: the results of a completed pair reach the Coil Table. R5 gives them no order within the pair; the model takes the result of
the coil on RD0 first, its own choice, which shows where both request UNSUITABLE under one key (R15; log entry 31). -/
def State.takePair (p : Fin 4) (s : State) : State :=
  (s.takeProbe (firstCoil p) s.probe.unit0).takeProbe (secondCoil p) s.probe.unit1

/-- R5: the sweep is complete: progress returns to IDLE and the tracking update runs. -/
def State.completeSweep (s : State) : State := s.abortSweep.trackingUpdate

/-- R5: while the pair in flight has ended its results are taken and the next pair starts; after pair 3 the sweep completes.
The first argument bounds the number of pairs. -/
def State.advanceSweep : Nat → State → State
  | 0, s => s
  | n + 1, s =>
    match s.probe.sweep with
    | none => s
    | some p =>
      if s.probe.pairEnded then
        let s := s.takePair p
        if p = 3 then s.completeSweep else State.advanceSweep n (s.startPair (p + 1))
      else s

/-- R1: at a window start in RUN a sweep begins with pair 0. -/
def State.startSweep (s : State) : State :=
  if s.sup.state = .run then (s.startPair 0).advanceSweep 4 else s

/-! ### The commands -/

/-- R2: at the compare match the pulses of the pair end together. -/
def State.pulseEnd (time : Nat) (s : State) : State :=
  { s with probe := { s.probe with unit0 := s.probe.unit0.endPulse time, unit1 := s.probe.unit1.endPulse time } }

/-- PROBE_PULSE_END. -/
def execProbePulseEnd (time : Nat) (s : State) : Result := live s (State.pulseEnd time)

/-- R3 to R5: a mark is ignored or accepted, and may end the probe by count full. -/
def State.ringMark (d : Fin 2) (time : Nat) (s : State) : State :=
  let c := s.probe.capture d
  if c.accepts time then { s with probe := s.probe.setCapture d (c.mark time) }.advanceSweep 4 else s

/-- RING_MARK. -/
def execRingMark (detector : Fin 2) (time : Nat) (s : State) : Result := live s (State.ringMark detector time)

/-- R4, R5: a ringing coil's probe ends on one detector. -/
def State.endProbe (d : Fin 2) (s : State) : State :=
  { s with probe := s.probe.setCapture d (s.probe.capture d).finish }.advanceSweep 4

/-- RING_DECAYED: 1,100 ticks without an accepted mark. -/
def execRingDecayed (detector : Fin 2) (s : State) : Result := live s (State.endProbe detector)

/-- TIME_LIMIT: 1.6 ms from the end of the pulse. -/
def execTimeLimit (detector : Fin 2) (s : State) : Result := live s (State.endProbe detector)

end Sys2Proof.Machine
end

