-- ==== Sys2Proof/Machine/Power.lean ====
section
/-! DEFINITION. The effective maximum (R20) and the Power Allocator (spec/04): shares, demands, the phase budget and grants. -/

namespace Sys2Proof.Machine

open Sys2Proof

/-! ### Effective maximum (R20) -/

/-- R20: a value falling in a straight line from `top` at `soft` towards 0 at `hard`. Shared with the sink cap (R72). -/
def derate (top soft hard t : Nat) : Nat :=
  if t ≤ soft then top else if t < hard then top * (hard - t) / (hard - soft) else 0

/-- R20: the effective maximum of a coil. -/
def effectiveMaximum (su : CoilSetup) (c : Coil) : Nat :=
  if !c.fitted || coilState c = .hot || coilState c = .faulted || coilState c = .held || coilState c = .blocked ||
      c.overheat || c.faultActive || c.held then 0
  else
    match c.temperature with
    | none => 0
    | some t => derate su.coilMax su.softTemp su.hardTemp t

/-- R20: at the allocation point, once setup is good, every coil's effective maximum is computed. -/
def State.computeMaxima (s : State) : State :=
  if s.setupGood then
    { s with coils := s.coils.mapIx fun i c => { c with effectiveMax := effectiveMaximum (s.setup.coils.get i) c } }
  else s

/-! ### Fragment shares and coil demands (R67 to R71) -/

/-- R68: the pan's total area: the fragment's own area and every report of its tag. -/
def totalArea (peers : List PeerEntry) (f : Fragment) : Nat :=
  f.area + ((peers.filter fun e => e.report.tag = f.tag).map fun e => e.report.area).sum

/-- R67, R68: the fragment share S_f. -/
def fragmentShare (cache : List CacheEntry) (peers : List PeerEntry) (f : Fragment) : Nat :=
  currentTarget cache f * f.area / totalArea peers f

/-- R70: the coil of largest coverage, of equal coverages the lowest index. -/
def fullestCoil (coils : Eight Coil) : CoilIx → List CoilIx → CoilIx
  | i, [] => i
  | i, j :: js => fullestCoil coils (if (coils.get i).coverage < (coils.get j).coverage then j else i) js

/-- R70: the part of a share that a coil's coverage gives it, before the remainder. -/
def coverageShare (coils : Eight Coil) (f : Fragment) (i : CoilIx) : Nat := f.share * (coils.get i).coverage / f.area

/-- R70: the raw demand of a coil of a fragment: its coverage share, and the remainder on the fullest coil. -/
def rawDemandIn (coils : Eight Coil) (f : Fragment) (i : CoilIx) : Nat :=
  coverageShare coils f i +
    match f.coils with
    | [] => 0
    | c :: cs =>
      if i = fullestCoil coils c cs then f.share - ((c :: cs).map (coverageShare coils f)).sum else 0

/-- R70: the raw demand of a coil: that of the fragment that holds it, when its target is above 0. -/
def rawDemand (coils : Eight Coil) (cache : List CacheEntry) (pans : List Fragment) (i : CoilIx) : Nat :=
  match pans.find? fun f => f.coils.contains i with
  | none => 0
  | some f => if 0 < currentTarget cache f then rawDemandIn coils f i else 0

/-! ### Module demand and maximum (R72 to R74) -/

/-- R72, Table 4-4: the sink cap. -/
def State.sinkCap (s : State) : Nat :=
  if s.sense.sinkFault then 0
  else
    match s.sense.sinkTemp with
    | none => 0
    | some t => if s.setup.sinkHard ≤ t then 0 else derate s.setup.moduleMax s.setup.sinkSoft s.setup.sinkHard t

/-! ### Phase budget (R75, R76) -/

/-- R75, Table 4-5: what a roster entry contributes to the phase sum of a phase. -/
def contribution (phase : Phase) (e : RosterEntry) : Nat :=
  match e.content with
  | none => 0
  | some st =>
    if st.phase ≠ phase then 0
    else
      match e.freshness with
      | .fresh => st.demand
      | .recent => st.maximum
      | .gone => 0

/-- R75, R76: the contributions of the other module positions. -/
def State.contributions (s : State) : Nat :=
  (Eight.ofFn fun q => if q = s.sup.position then 0 else contribution s.setup.phase (s.link.roster.get q)).sum

/-- R76: the module grant. -/
def moduleGrant (limit demand sum : Nat) : Nat := if sum ≤ limit then demand else limit * demand / sum

/-! ### The allocation (R65 to R79) -/

/-- R64, R67, R68: the shares of the pan table. -/
def State.computeShares (s : State) : State :=
  { s with
    tracker :=
      { s.tracker with pans := s.tracker.pans.map fun f => { f with share := fragmentShare s.cache s.link.peers f } } }

/-- The figures of Table 4-1 from shares already computed. -/
def State.figures (s : State) : Allocator :=
  let raw := Eight.ofFn (rawDemand s.coils s.cache s.tracker.pans)
  let demand := Eight.ofFn fun i => min (raw.get i) (s.coils.get i).effectiveMax
  let cap := s.sinkCap
  let d := min demand.sum cap
  let m := min (Eight.ofFn fun i => if (s.coils.get i).fitted then (s.coils.get i).effectiveMax else 0).sum cap
  let sum := d + s.contributions
  let g := moduleGrant s.setup.phaseLimit d sum
  { rawDemand := raw
    demand := demand
    demandSum := demand.sum
    sinkCap := cap
    moduleDemand := d
    moduleMax := m
    phaseSum := sum
    moduleGrant := g
    grant := Eight.ofFn fun i => if demand.sum = 0 then 0 else demand.get i * g / demand.sum
    assigned := Eight.ofFn s.targeted
    joined := s.alloc.joined }

/-- R65, R66: the allocation: figures in RUN once an update has joined a program, zeros before that (R66, R164; log entry 33) and
in every other state. -/
def State.allocate (s : State) : State :=
  if s.sup.state = .run && s.alloc.joined then
    let s := s.computeShares
    { s with alloc := s.figures }
  else s.zeroFigures

end Sys2Proof.Machine
end

