-- ==== Sys2Proof/Machine/Driving.lean ====
section
/-! DEFINITION. The Drive Unit (spec/05, spec/06): the lock with the left neighbour, the grant hand-over, slot patterns, the gates,
and the command DRIVE_COUNTER_MATCH. -/

namespace Sys2Proof.Machine

open Sys2Proof

/-! ### Masks, adjacency and floors (R104 to R106) -/

/-- A set of rows as the four bits of a mask: bit r for row r. -/
def rowMask (p : Row → Bool) : BitVec 4 :=
  BitVec.ofNat 4 (flag (p 0) 1 + flag (p 1) 2 + flag (p 2) 4 + flag (p 3) 8)

/-- Row r is in a mask. -/
def inMask (m : BitVec 4) (r : Row) : Bool := m.getLsbD r.val

/-- The roster entry of a neighbour, unheard where there is none. -/
def State.rosterOf (s : State) : Option Position → RosterEntry
  | none => RosterEntry.unheard
  | some q => s.link.roster.get q

/-- R105: the left neighbour's roster entry. -/
def State.leader (s : State) : RosterEntry := s.rosterOf (leftNeighbour s.sup.position)

/-- R105: the leader frequency; read only where the leader has been heard. -/
def State.leaderFrequency (s : State) : Nat :=
  match s.leader.content with
  | none => 0
  | some st => st.frequency

/-- R104: the left assigned mask. -/
def State.assignedLeft (s : State) : BitVec 4 := rowMask fun r => s.alloc.assigned.get (leftCoil r)

/-- R104: the right assigned mask. -/
def State.assignedRight (s : State) : BitVec 4 := rowMask fun r => s.alloc.assigned.get (rightCoil r)

/-- R105: the adjacent rows. -/
def State.adjacentRows (s : State) : BitVec 4 :=
  match s.leader.freshness, s.leader.content with
  | .gone, _ => 0
  | _, none => 0
  | _, some st => s.assignedLeft &&& st.rightMask

/-- R106: the right contribution. -/
def State.rightFloor (s : State) : Nat :=
  let e := s.rosterOf (rightNeighbour s.sup.position)
  match e.freshness, e.content with
  | .fresh, some st =>
    match st.role with
    | .following => st.chainFloor
    | .pending => st.chainFloor
    | .refused => st.chainFloor
    | _ => Config.lowestFrequency
  | _, _ => Config.lowestFrequency

/-- The largest of a figure over the coils of a set, at least `base`. -/
def maxOver (base : Nat) (p : CoilIx → Bool) (f : CoilIx → Nat) : Nat :=
  (allCoils.filter p).foldl (fun m i => max m (f i)) base

/-- R106: the lock floor: every assigned coil, held or not, and the right contribution. -/
def State.computeLockFloor (s : State) : Nat :=
  maxOver (max Config.lowestFrequency s.rightFloor) (fun i => s.alloc.assigned.get i) fun i => (s.coils.get i).floor

/-- R106: the own floor: every assigned coil that is not held. -/
def State.computeOwnFloor (s : State) : Nat :=
  maxOver Config.lowestFrequency (fun i => s.alloc.assigned.get i && !(s.coils.get i).held) fun i => (s.coils.get i).floor

/-! ### The lock role (R107, R108) -/

/-- R107, Table 6-1: the role and pending counter after the decision. -/
def decideRole (leader : Freshness) (adjacent matched : Bool) (role : LockRole) (counter : Nat) : LockRole × Nat :=
  match leader with
  | .gone => (.free, 0)
  | .recent => if adjacent then (.lost, 0) else (.free, 0)
  | .fresh =>
    if !adjacent then (.free, 0)
    else if matched then (.following, 0)
    else
      match role with
      | .refused => (.refused, 4)
      | .pending => if counter < 4 then (.pending, counter + 1) else (.refused, 4)
      | _ => (.pending, 1)

/-- R108, Table 6-2: whether a left-column coil of a row is held after the decision. -/
def heldAfter (role : LockRole) (adjacent before : Bool) : Bool :=
  match role with
  | .free => false
  | .following => false
  | .refused => adjacent
  | .lost => adjacent
  | .pending => before && adjacent

/-- R107: the decision of this hand-over. -/
def State.roleDecision (s : State) : LockRole × Nat :=
  decideRole s.leader.freshness (s.adjacentRows ≠ 0) (s.computeLockFloor ≤ s.leaderFrequency) s.drive.role
    s.drive.pendingCounter

/-- R108: the held flag of a coil; right-column coils are never held. -/
def State.heldFlag (s : State) (role : LockRole) (i : CoilIx) : Bool :=
  if h : i.val < 4 then heldAfter role (inMask s.adjacentRows ⟨i.val, h⟩) (s.coils.get i).held else false

/-- R104, R106 to R108: step 1 of the hand-over. Before setup is good the lock is idle (R97, R112, R157). -/
def State.decideLock (s : State) : State :=
  if s.setupGood then
    let d := s.roleDecision
    let lock := s.computeLockFloor
    let s := { s with coils := s.coils.mapIx fun i (c : Coil) => { c with held := s.heldFlag d.1 i } }
    { s with
      drive :=
        { s.drive with
          role := d.1
          pendingCounter := d.2
          leftMask := s.assignedLeft
          rightMask := s.assignedRight
          rightContribution := s.rightFloor
          lockFloor := lock
          ownFloor := s.computeOwnFloor
          chainFloor := max s.computeOwnFloor s.rightFloor } }
  else s

/-! ### Frequency (R97, R109) -/

/-- R94: the raw density of a coil, 15 × g / P rounded half up. -/
def rawDensityOf (grant power : Nat) : Nat := (30 * grant + power) / (2 * power)

/-- R97, Table 5-4: the frequency step of n*. -/
def stepFrequency (n f : Nat) : Nat := if 30 ≤ n then f - 4 else if 16 ≤ n then f - 1 else if 12 ≤ n then f else f + 1

/-- R97: a frequency clamped to [chain floor, 140]. -/
def clampToChain (chain f : Nat) : Nat := max chain (min Config.highestFrequency f)

/-- R97, R109: the coils n* is taken over: assigned and not held. -/
def State.steering (s : State) (i : CoilIx) : Bool := s.alloc.assigned.get i && !(s.coils.get i).held

/-- R97, R109: no coil is assigned. -/
def State.noneAssigned (s : State) : Bool := !allCoils.any fun i => s.alloc.assigned.get i

/-- R109: coils are assigned and all of them are held, so n* has nothing to be taken over (log entry 5). -/
def State.allHeld (s : State) : Bool := !s.noneAssigned && !allCoils.any s.steering

/-- R97: n*, the largest raw density over the steering coils; a free value where there is none (log entry 5). -/
def State.nStar (s : State) : Nat :=
  if s.allHeld then Config.freeNStar s.freeUsed else maxOver 0 s.steering fun i => s.drive.rawDensity.get i

/-- R97, R109: the frequency of roles FREE and LOST. -/
def State.steeredFrequency (s : State) : Nat :=
  clampToChain s.drive.chainFloor
    (if s.noneAssigned then s.setup.startFrequency else stepFrequency s.nStar s.drive.frequency)

/-- R109: the frequency by role. -/
def State.frequencyByRole (s : State) : Nat :=
  match s.drive.role with
  | .free => s.steeredFrequency
  | .lost => s.steeredFrequency
  | .following => s.leaderFrequency
  | .pending => s.drive.chainFloor
  | .refused => s.drive.chainFloor

/-- The role steers by n*. -/
def steers : LockRole → Bool
  | .free => true
  | .lost => true
  | _ => false

/-- R93 steps 2 and 3: raw densities, then the frequency. Before setup is good the frequency stays (R97, R176). -/
def State.setFrequency (s : State) : State :=
  let s :=
    { s with drive := { s.drive with rawDensity := Eight.ofFn fun i => rawDensityOf (s.alloc.grant.get i) (s.powerTaken i) } }
  if s.setupGood then
    { s with
      drive := { s.drive with frequency := s.frequencyByRole }
      freeUsed := if steers s.drive.role && s.allHeld then s.freeUsed + 1 else s.freeUsed }
  else s

/-! ### Densities, patterns and shortfall (R94 to R96) -/

/-- R94: the density of a coil is forced to 0. -/
def State.densityForced (s : State) (i : CoilIx) : Bool :=
  undrivable (coilState (s.coils.get i)) || (s.coils.get i).liftSuspected || s.inhibited || s.sup.state ≠ .run

/-- R94: the density of a coil. -/
def State.densityOf (s : State) (i : CoilIx) : Nat := if s.densityForced i then 0 else min 15 (s.drive.rawDensity.get i)

/-- R95: a coil of density `n` is driven in slot `t0`. -/
def slotOn (i : CoilIx) (n slot : Nat) : Bool :=
  let t := (slot - 1 + 2 * i.val) % 15 + 1
  t * n / 15 - (t - 1) * n / 15 = 1

/-- The drive slots. -/
def driveSlots : List Nat := [1, 2, 3, 4, 5, 6, 7, 8, 9, 10, 11, 12, 13, 14, 15]

/-- R95: the slot pattern of a coil of density `n`. -/
def slotPattern (i : CoilIx) (n : Nat) : List Nat := driveSlots.filter (slotOn i n)

/-- R96: the hand-over shortfall. -/
def State.computeShortfall (s : State) : Nat :=
  min Config.shortfallTop
    (Eight.ofFn fun i => s.alloc.grant.get i - s.drive.density.get i * s.powerTaken i / 15).sum

/-- R93 steps 4 to 6: densities, heating flags, patterns, the shortfall, and the frequency as this hand-over leaves it (R157). -/
def State.setDensities (s : State) : State :=
  let density := Eight.ofFn s.densityOf
  let s :=
    { s with
      drive := { s.drive with density := density, pattern := density.mapIx slotPattern }
      coils := s.coils.mapIx fun i (c : Coil) => { c with heating := decide (0 < density.get i) } }
  { s with
    drive :=
      { s.drive with
        shortfall := s.computeShortfall
        published := min Config.shortfallTop (s.computeShortfall + s.drive.cutLoss)
        handedFrequency := s.drive.frequency
        cutLoss := 0 } }

/-! ### The status of the window (R93 step 7, R137) -/

/-- The module state in which a status is handed to the queue (Table 8-3). -/
def sendsStatus : ModuleState → Bool
  | .setupFault => true
  | .quiet => true
  | .run => true
  | .stopped => true
  | .loading => false
  | .silent => false

/-- The window's status is handed to the queue. -/
def State.queueStatus (s : State) : State := s.hand .status s.statusLevel (encodeStatus s.status)

/-- R137: under ALONE the status is queued when the interval count is 0 and discarded otherwise; then the count advances. -/
def State.handStatus (s : State) : State :=
  if sendsStatus s.sup.state then
    if s.link.alone then
      let s := if s.link.interval = 0 then s.queueStatus else s
      { s with link := { s.link with interval := (s.link.interval + 1) % 8 } }
    else s.queueStatus
  else s

/-- R79, R93: the grant hand-over. -/
def State.handOver (s : State) : State := s.decideLock.setFrequency.setDensities.handStatus

/-! ### Driving the slots (R91, R92, R99) -/

/-- R99: the coil is driven from the boundary that starts the slot of the half-cycle counter. -/
def State.drives (s : State) (i : CoilIx) : Bool :=
  s.driveSlot && 0 < s.drive.density.get i && (s.drive.pattern.get i).contains s.timebase.halfCycle.val &&
    !s.inhibited && !s.stopAsserted && s.sup.state = .run

/-- R91, R99, R116, R121: the drive of a slot starts: the counter restarts, the accumulators of the driven coils open empty. -/
def State.startDrive (s : State) : State :=
  { s with
    drive :=
      { s.drive with
        driven := Eight.ofFn s.drives
        highGate := Eight.fill false
        lowGate := Eight.fill false
        counter := 0 }
    sense := { s.sense with acc := Eight.ofFn fun i => { Accumulator.clear with inFlight := s.drives i } }
    coils := s.coils.mapIx fun i c => { c with drivenInWindow := c.drivenInWindow || s.drives i } }

/-- R92: the values at which the drive counter acts. -/
def State.matchValues (s : State) : List Nat :=
  let q := drivePeriod s.drive.frequency
  let h := halfPeriod s.drive.frequency
  let d := s.setup.deadTime
  [d, h - d, h + d, q - d, q]

/-- R92: the high-side gate is on from d up to H − d. -/
def State.highSpan (s : State) (count : Nat) : Bool :=
  s.setup.deadTime ≤ count && count < halfPeriod s.drive.frequency - s.setup.deadTime

/-- R92: the low-side gate is on from H + d up to the drive period − d. -/
def State.lowSpan (s : State) (count : Nat) : Bool :=
  halfPeriod s.drive.frequency + s.setup.deadTime ≤ count && count < drivePeriod s.drive.frequency - s.setup.deadTime

/-- R91, R92: in a drive slot the counter reaches a match value: the gates of the driven coils follow it, and at the drive period
it clears. -/
def State.driveMatch (count : Nat) (s : State) : State :=
  if s.driveSlot && s.matchValues.contains count then
    { s with
      drive :=
        { s.drive with
          counter := if count = drivePeriod s.drive.frequency then 0 else count
          highGate := s.drive.driven.map fun b => b && s.highSpan count
          lowGate := s.drive.driven.map fun b => b && s.lowSpan count } }
  else s

/-- DRIVE_COUNTER_MATCH. -/
def execDriveCounterMatch (count : Nat) (s : State) : Result := live s (State.driveMatch count)

end Sys2Proof.Machine
end

