-- ==== Sys2Proof/Machine/Sensing.lean ====
section
/-! DEFINITION. The Sense Unit (spec/07) and what its events do at the Coil Table: half-cycle power, the window comparators, the
temperatures, and the commands CURRENT_SAMPLE, BUS_CONVERSION, TEMPERATURE_READINGS and FAULT_END. -/

namespace Sys2Proof.Machine

open Sys2Proof

/-! ### Half-cycle power (R117, R118, R122, R124) -/

/-- R117: the half-cycle power in 10 W units, none for a pair count of 0. -/
def halfCyclePower (a : Accumulator) : Option Nat :=
  if a.count = 0 then none else some (min 1023 ((a.sum + 400 * a.count) / (800 * a.count)).toNat)

/-- R124: the sag comparator at a closing boundary. -/
def State.sagging (s : State) : Bool := s.sense.bus < s.setup.busMin

/-- R122: the lift comparator on a half-cycle power. -/
def liftRaised (taken power : Nat) : Bool := 4 ≤ taken && power * 4 < taken

/-- R117: the half-cycle power the closing boundary forms for a coil, if it has a half-cycle in flight. -/
def State.closedPower (s : State) (i : CoilIx) : Option Nat :=
  if (s.sense.acc.get i).inFlight then halfCyclePower (s.sense.acc.get i) else none

/-- R122: LIFT is raised for a coil at the closing boundary. -/
def State.liftAt (s : State) (i : CoilIx) : Bool :=
  match s.closedPower i with
  | none => false
  | some p => !s.sagging && liftRaised (s.powerTaken i) p

/-- R118: the window values of a coil after the closing boundary. -/
def State.closedWindow (s : State) (i : CoilIx) (w : WindowValue) : WindowValue :=
  match s.closedPower i with
  | none => w
  | some p => if s.sagging || s.liftAt i then w else { sum := w.sum + p, number := w.number + 1 }

/-- R89, R92, R99, R117 to R124: a boundary closes the half-cycle before it: gates off, powers formed and judged, lifted coils cut. -/
def State.closeHalfCycle (s : State) : State :=
  let lift := s.liftAt
  let closed :=
    { s with
      drive :=
        { s.drive with driven := Eight.fill false, highGate := Eight.fill false, lowGate := Eight.fill false }
      sense :=
        { s.sense with
          window := s.sense.window.mapIx s.closedWindow
          acc := Eight.fill Accumulator.clear }
      coils := s.coils.mapIx fun i (c : Coil) => { c with liftSuspected := c.liftSuspected || lift i } }
  closed.cutSet lift fun _ => true

/-- R115: at a boundary, once setup is good, the bus report of the closed half-cycle goes to the Supervisor (R169). That it goes there
before the events of the same boundary is the model's choice (DESIGN CHOICE, log entry 35). -/
def State.reportBus (s : State) : State :=
  if s.setupGood then
    let high := s.sense.busHigh
    { s with sense := { s.sense with busHigh := false } }.takeBusReport high
  else s

/-! ### Measured power (R119) -/

/-- R119: P_i from the window values. -/
def measuredPower (w : WindowValue) (p : Option Nat) : Option Nat :=
  if w.number = 0 then p else some ((2 * w.sum + w.number) / (2 * w.number))

/-- R119: at a window start P_i is formed and the window values are cleared. -/
def State.formPower (s : State) : State :=
  { s with
    sense :=
      { s.sense with
        power := s.sense.power.mapIx fun i p => measuredPower (s.sense.window.get i) p
        window := Eight.fill { sum := 0, number := 0 } } }

/-! ### Overcurrent (R116, R120, R121) -/

/-- R120: the peak comparator on a sample. -/
def overcurrentSample (limit : Nat) (sample : BitVec 12) : Bool :=
  saturatedSample sample || (limit : Int) < sampleValue sample || sampleValue sample < -(limit : Int)

/-- R121: the coil's fault record after an OVERCURRENT. -/
def faultCoil (c : Coil) : Coil :=
  { c with faultTimer := 4, faultRetries := satSucc 3 c.faultRetries, overcurrentInWindow := true }

/-- R120, R121: OVERCURRENT for a coil: it is cut, its half-cycle discarded, its fault record changed. -/
def State.overcurrent (i : CoilIx) (s : State) : State :=
  let s := s.cutCoil i
  { s with coils := s.coils.update i faultCoil }

/-- R116: a sample paired with the bus conversion that stands. -/
def addPair (sample : BitVec 12) (bus : Nat) (a : Accumulator) : Accumulator :=
  { a with sum := a.sum + sampleValue sample * (bus : Int), count := a.count + 1 }

/-- R116, R120: a sample of a coil being driven, at a sample point of the drive period. -/
def State.currentSample (i : CoilIx) (count : Nat) (sample : BitVec 12) (s : State) : State :=
  if s.drive.driven.get i && (s.sense.acc.get i).inFlight && (samplePoints s.drive.frequency).contains count then
    if overcurrentSample (s.setup.coils.get i).currentLimit sample then s.overcurrent i
    else { s with sense := { s.sense with acc := s.sense.acc.update i (addPair sample s.sense.bus) } }
  else s

/-- CURRENT_SAMPLE. -/
def execCurrentSample (coil : CoilIx) (count : Nat) (sample : BitVec 12) (s : State) : Result :=
  live s (State.currentSample coil count sample)

/-- R17, R121: the fault timer of a coil falls by one at a window start. -/
def tickFault (c : Coil) : Coil := { c with faultTimer := c.faultTimer - 1 }

/-- R121: the clean-window test of a coil; a latched record stays until reset. -/
def cleanWindow (c : Coil) : Coil :=
  { c with
    faultRetries := if c.drivenInWindow && !c.overcurrentInWindow && c.faultRetries ≠ 3 then 0 else c.faultRetries
    drivenInWindow := false
    overcurrentInWindow := false }

/-- R121: the fault timer of the coil, at its last window, reaches 0 (log entry 4). The state follows (R9). -/
def State.faultEnd (i : CoilIx) (s : State) : State :=
  if (s.coils.get i).faultTimer = 1 && (s.coils.get i).faultRetries < 3 then { s with coils := s.coils.update i tickFault }
  else s

/-- FAULT_END. -/
def execFaultEnd (coil : CoilIx) (s : State) : Result := live s (State.faultEnd coil)

/-! ### The bus (R115, R123) -/

/-- R123: the bus run after a conversion in a drive slot. -/
def nextBusRun (high : Bool) (run : Nat) : Nat := if high then satSucc 64 run else 0

/-- R115, R123: a conversion once setup is good: bus high, and in a drive slot the bus run and OVERVOLT. -/
def State.watchBus (v : Nat) (s : State) : State :=
  let high : Bool := s.setup.busMax < v
  let run := s.sense.busRun
  let s := { s with sense := { s.sense with busHigh := s.sense.busHigh || high } }
  if s.driveSlot then
    let s := { s with sense := { s.sense with busRun := nextBusRun high run } }
    if high && run = 63 then s.raiseOvervolt else s
  else s

/-- R115: a conversion of VBUS. -/
def State.busConversion (value : BitVec 10) (s : State) : State :=
  let s := { s with sense := { s.sense with bus := value.toNat } }
  if s.setupGood then s.watchBus value.toNat else s

/-- BUS_CONVERSION. -/
def execBusConversion (value : BitVec 10) (s : State) : Result := live s (State.busConversion value)

/-! ### Temperatures (R16, R125 to R128) -/

/-- R16, Table 1-5: a reading applied to a coil record; none is SENSOR_FAULT. -/
def applyReading (su : CoilSetup) (reading : Option Nat) (c : Coil) : Coil :=
  match reading with
  | none => { c with sensorFault := true, recovery := 0, overheat := true }
  | some t =>
    if c.sensorFault && c.recovery = 0 then { c with temperature := some t, recovery := 1 }
    else if c.sensorFault || c.temperature.isNone then
      { c with temperature := some t, sensorFault := false, recovery := 0, overheat := su.hardTemp ≤ t }
    else
      { c with
        temperature := some t
        recovery := 0
        overheat := if su.hardTemp ≤ t then true else if t + 10 ≤ su.softTemp then false else c.overheat }

/-- R127, Table 7-5: a sink reading applied to the sink record. -/
def applySink (hard : Nat) (reading : Option Nat) (n : Sense) : Sense :=
  match reading with
  | none => { n with sinkFault := true, sinkRecovery := 0, sinkHot := true }
  | some t =>
    if n.sinkFault && n.sinkRecovery = 0 then { n with sinkTemp := some t, sinkRecovery := 1 }
    else { n with sinkTemp := some t, sinkFault := false, sinkRecovery := 0, sinkHot := hard ≤ t }

/-- R16: the readings of the fitted coils reach the Coil Table. -/
def State.readCoils (codes : Eight (BitVec 12)) (s : State) : State :=
  { s with
    coils := s.coils.mapIx fun i (c : Coil) =>
      if c.fitted then applyReading (s.setup.coils.get i) (temperatureOf (codes.get i)) c else c }

/-- R127, R128: the sink reading; the onset of SINK_HOT inhibits drive (R102). -/
def State.readSink (code : BitVec 12) (s : State) : State :=
  let sense := applySink s.setup.sinkHard (temperatureOf code) s.sense
  let onset : Bool := !s.sense.sinkHot && sense.sinkHot
  let s := { s with sense := sense }
  if onset then s.cutAll else s

/-- R125: the readings of a conversion in flight are handed over together; withdrawals follow (R101). -/
def State.temperatureReadings (codes : Eight (BitVec 12)) (sink : BitVec 12) (s : State) : State :=
  if s.sense.converting then
    let s := { s with sense := { s.sense with converting := false } }
    ((s.readCoils codes).readSink sink).withdrawByState
  else s

/-- TEMPERATURE_READINGS. -/
def execTemperatureReadings (coilCodes : Eight (BitVec 12)) (sinkCode : BitVec 12) (s : State) : Result :=
  live s (State.temperatureReadings coilCodes sinkCode)

end Sys2Proof.Machine
end

