-- ==== Sys2Proof/Machine/Windows.lean ====
section
/-! DEFINITION. The events the Timebase raises (R89, R90): the window start, the allocation point and the second tick, with what
each does at every block, and the commands that end a count inside them (LINK_BLOCKED_SET, PEER_FRAGMENT_AGE_OUT,
PANEL_ABSENCE). A raised event is taken by its command, or before the next boundary (log entry 3). -/

namespace Sys2Proof.Machine

open Sys2Proof

/-! ### Ageing (R146, R148) -/

/-- R146: a heard roster entry ages by one window. -/
def ageEntry (e : RosterEntry) : RosterEntry :=
  match e.content with
  | none => e
  | some _ => { e with age := satSucc 255 e.age }

/-- R146. -/
def State.ageRoster (s : State) : State := { s with link := { s.link with roster := s.link.roster.map ageEntry } }

/-- R148: entries of the peer fragment table leave it, each with the test of R42, in the order of the table, the model's choice (DESIGN
CHOICE, log entry 34). -/
def State.removePeers (out : PeerEntry → Bool) (s : State) : State :=
  let gone := s.link.peers.filter out
  let s := { s with link := { s.link with peers := s.link.peers.filter fun e => !out e } }
  gone.foldl (fun s' e => s'.confirmIfGone e.report.tag) s

/-- R148: the entry's age would pass 3. -/
def outAged (e : PeerEntry) : Bool := 3 ≤ e.age

/-- R148: every entry ages by one window; an entry whose age would pass 3 is removed. -/
def State.agePeers (s : State) : State :=
  let s := s.removePeers outAged
  { s with link := { s.link with peers := s.link.peers.map fun e => { e with age := e.age + 1 } } }

/-- R148: the entry of the source and tag, at age 3, would pass it (log entry 4). -/
def State.peerAgeOut (source : Position) (tag : Tag) (s : State) : State :=
  s.removePeers fun e => e.source = source && e.report.tag = tag && outAged e

/-- PEER_FRAGMENT_AGE_OUT. -/
def execPeerFragmentAgeOut (source : Position) (tag : Tag) (s : State) : Result := live s (State.peerAgeOut source tag)

/-! ### LINK_BLOCKED (R145) -/

/-- R145: entries wait and no own frame has won contention since the previous window start. -/
def Link.starved (l : Link) : Bool := !l.queue.isEmpty && !l.wonInWindow

/-- R145: the blocked count at a window start. -/
def State.countBlocked (s : State) : State :=
  if s.link.queue.isEmpty then { s with link := { s.link with blockedCount := 0, linkBlocked := false } }
  else if s.link.wonInWindow then s
  else if s.link.blockedCount + 1 < 5 then { s with link := { s.link with blockedCount := s.link.blockedCount + 1 } }
  else if s.link.linkBlocked then s
  else s.setLinkBlocked

/-- R145: the look at a window start, which begins a new span for the wins. -/
def State.checkBlocked (s : State) : State :=
  let s := s.countBlocked
  { s with link := { s.link with wonInWindow := false } }

/-- R145: the blocked count, at 4 with frames waiting and none won, reaches 5 (log entry 4). -/
def State.linkBlockedSet (s : State) : State :=
  if s.link.starved && s.link.blockedCount = 4 then s.setLinkBlocked else s

/-- LINK_BLOCKED_SET. -/
def execLinkBlockedSet (s : State) : Result := live s State.linkBlockedSet

/-! ### The window start (R89) -/

/-- R125: the states in which temperatures are converted. -/
def converts : ModuleState → Bool
  | .run => true
  | .quiet => true
  | .stopped => true
  | .silent => true
  | .loading => false
  | .setupFault => false

/-- R125: the conversions start at the window start, once setup is good. -/
def State.startConversion (s : State) : State :=
  { s with sense := { s.sense with converting := s.setupGood && converts s.sup.state } }

/-- R17, R121: fault timers fall, then the clean-window test. -/
def State.ageFaults (s : State) : State := { s with coils := s.coils.map fun c => cleanWindow (tickFault c) }

/-- R89, R119, R121, R125, R145, R146, R148, R45, R1: the window start at every block, in the order of log entry 9. -/
def State.openWindow (s : State) : State :=
  let s := { s with timebase := { s.timebase with windowStartRaised := false } }
  s.formPower.ageFaults.ageRoster.agePeers.checkBlocked.startConversion.reportFrozen.startSweep

/-- WINDOW_START, when a boundary has raised it. -/
def execWindowStart (s : State) : Result :=
  live s fun s => if s.timebase.windowStartRaised then s.openWindow else s

/-! ### The allocation point (R65) -/

/-- R6: a sweep still in flight is aborted, and the tracking update runs in its place. -/
def State.abortAtSlot1 (s : State) : State :=
  match s.probe.sweep with
  | none => s
  | some _ => if s.sup.state = .run then s.abortSweep.trackingUpdate else s.abortSweep

/-- R6, R20, R65, R93, R99: the allocation point at every block; the hand-over is completed before the drive of slot 1 starts. -/
def State.allocationPoint (s : State) : State :=
  let s := s.abortAtSlot1
  let s := { s with timebase := { s.timebase with allocationRaised := false } }
  s.computeMaxima.allocate.handOver.startDrive

/-- ALLOCATION_POINT, when a boundary has raised it. -/
def execAllocationPoint (s : State) : Result :=
  live s fun s => if s.timebase.allocationRaised then s.allocationPoint else s

/-! ### The second tick (R90) -/

/-- R165: the states in which the absence count counts. -/
def countsAbsence : ModuleState → Bool
  | .quiet => true
  | .run => true
  | .stopped => true
  | .loading => false
  | .setupFault => false
  | .silent => false

/-- R165: the absence count reaches 10. -/
def State.panelsAbsent (s : State) : State :=
  let s := { s with sup := { s.sup with absence := 10, lastPanel := .standby } }
  if s.sup.state = .run then s.enterQuietOrStopped else s

/-- R165: the absence count at a second tick. -/
def State.tickAbsence (s : State) : State :=
  if countsAbsence s.sup.state then
    if s.sup.absence + 1 < 10 then { s with sup := { s.sup with absence := s.sup.absence + 1 } } else s.panelsAbsent
  else s

/-- R43, R52, R55, R101: a second tick in RUN at the Setting Store and the Pan Tracker: expiry before progress (R52). -/
def State.tickPans (s : State) : State :=
  if s.sup.state = .run then s.ageCache.tickPrograms.tickGrace.withdrawUntargeted else s

/-- R90: the second tick at every block, in the order of log entry 9. -/
def State.takeSecondTick (s : State) : State :=
  let s := { s with timebase := { s.timebase with secondTickRaised := false } }
  s.tickPans.tickAbsence

/-- SECOND_TICK, when a boundary has raised it. -/
def execSecondTick (s : State) : Result :=
  live s fun s => if s.timebase.secondTickRaised then s.takeSecondTick else s

/-- R165: the absence count, at 9, reaches 10 (log entry 4). -/
def State.panelAbsence (s : State) : State :=
  if countsAbsence s.sup.state && s.sup.absence = 9 then s.panelsAbsent else s

/-- PANEL_ABSENCE. -/
def execPanelAbsence (s : State) : Result := live s State.panelAbsence

end Sys2Proof.Machine
end

