-- ==== Sys2Proof/Machine/Timing.lean ====
section
/-! DEFINITION. The Timebase (spec/05, R84 to R90): class measurement, acceptance span, flywheel, half-cycle boundaries, the exit
from LOADING that a class-setting boundary brings, and the commands ZERO_CROSSING, SYNTHETIC_BOUNDARY, MAINS_LOST_SET,
MAINS_LOST_CLEAR and LOADING_EXIT. -/

namespace Sys2Proof.Machine

open Sys2Proof

/-! ### Leaving LOADING (R163, R177) -/

/-- R163, R177: a module in LOADING with a good setup whose mains class is known leaves LOADING. -/
def State.loadingDone (s : State) : Bool := s.sup.state = .loading && s.setupGood && s.timebase.mainsClass ≠ .unknown

/-- R163, R177: the exit: the last panel state is set to STANDBY and the absence count to 0. -/
def State.exitLoading (s : State) : State :=
  { s with sup := { s.sup with lastPanel := .standby, absence := 0 } }.enterQuietOrStopped

/-- R177, when it is due. -/
def State.loadingExit (s : State) : State := if s.loadingDone then s.exitLoading else s

/-- LOADING_EXIT. -/
def execLoadingExit (s : State) : Result := live s State.loadingExit

/-! ### Half-cycle boundaries (R89, R90) -/

/-- Events of the previous boundary that no command has taken are taken before this one (log entry 3). -/
def State.takeRaised (s : State) : State :=
  let s := s.loadingExit
  let s := if s.timebase.windowStartRaised then s.openWindow else s
  let s := if s.timebase.secondTickRaised then s.takeSecondTick else s
  if s.timebase.allocationRaised then s.allocationPoint else s

/-- R90: boundaries between second ticks. -/
def ticksPerSecond : MainsClass → Nat
  | .hz60 => 120
  | _ => 100

/-- R89, R90: the counters advance and raise their events. -/
def advanceCounters (t : Timebase) : Timebase :=
  let slot := t.halfCycle + 1
  let second : Bool := ticksPerSecond t.mainsClass ≤ t.tickCount + 1
  { t with
    halfCycle := slot
    tickCount := if second then 0 else t.tickCount + 1
    windowStartRaised := slot = 0
    allocationRaised := slot = 1
    secondTickRaised := second }

/-- R99, R123: the slot starts: slot 0 drives nothing and sets the bus run to 0; the drive of slot 1 waits for the hand-over. -/
def State.startSlot (s : State) : State :=
  if s.timebase.halfCycle = 0 then { s with sense := { s.sense with busRun := 0 } }
  else if s.timebase.halfCycle = 1 then s
  else s.startDrive

/-- R89, R115: a half-cycle boundary after the first: it closes the half-cycle before it, hands over its bus report, advances the
counters and starts the slot. No rule says whether the report, whose sixteenth clear one in a row leaves STOPPED (R168, R169), comes
before or after the window start, the second tick and the allocation point of the same boundary; the model takes the report first,
always, its own choice (DESIGN CHOICE, log entry 35). -/
def State.boundary (s : State) : State :=
  let s := s.closeHalfCycle.reportBus
  { s with timebase := advanceCounters s.timebase, drive := { s.drive with counter := 0 } }.startSlot

/-! ### Class measurement (R85) -/

/-- R85: the class of a mean half-cycle. -/
def classOf (mean : Nat) : MainsClass :=
  if inRange 9000 11000 mean then .hz50 else if inRange 7500 8999 mean then .hz60 else .unknown

/-- R85: the eighth crossing sets the class, and is the first boundary: it starts slot 0 of the first window. Its bus report comes before
the window start that it raises (DESIGN CHOICE, log entry 35). -/
def State.setClass (time mean : Nat) (s : State) : State :=
  { s with
    timebase :=
      { s.timebase with
        mainsClass := classOf mean
        measCount := 8
        measPrev := time
        period := some mean
        reference := some time
        halfCycle := 0
        tickCount := 0
        windowStartRaised := true
        allocationRaised := false
        secondTickRaised := false } }.reportBus

/-- R85: a crossing while the class is unknown. -/
def State.measure (time : Nat) (s : State) : State :=
  let t := s.timebase
  if t.measCount = 0 then
    { s with timebase := { t with measCount := 1, measFirst := time, measPrev := time } }
  else if time < t.measPrev + 5000 then s
  else if t.measCount + 1 < 8 then
    { s with timebase := { t with measCount := t.measCount + 1, measPrev := time } }
  else if classOf ((time - t.measFirst) / 7) = .unknown then
    { s with timebase := { t with measCount := 1, measFirst := time, measPrev := time } }
  else s.setClass time ((time - t.measFirst) / 7)

/-! ### Crossings and the flywheel (R86 to R88) -/

/-- R86: the time lies in the acceptance span of a reference time and period. -/
def inSpan (reference period time : Nat) : Bool :=
  reference + period - period / 10 ≤ time && time ≤ reference + period + period / 10

/-- R86: the interval brought to the nearer edge of the band of the class. -/
def bandPeriod (c : MainsClass) (interval : Nat) : Nat :=
  match c with
  | .hz60 => clampNat 7500 8999 interval
  | _ => clampNat 9000 11000 interval

/-- R86, R88: an accepted crossing at the Timebase: period, reference time and runs; the accepted run reaching 4 clears
MAINS_LOST. -/
def acceptCrossing (reference time : Nat) (t : Timebase) : Timebase :=
  let run := satSucc 4 t.acceptedRun
  { t with
    period := some (bandPeriod t.mainsClass (time - reference))
    reference := some time
    syntheticRun := 0
    acceptedRun := run
    mainsLost := t.mainsLost && run ≠ 4 }

/-- R86: a crossing once the class is known. -/
def State.crossing (time : Nat) (s : State) : State :=
  match s.timebase.reference, s.timebase.period with
  | some r, some p =>
    if inSpan r p time then
      let s := s.takeRaised
      { s with timebase := acceptCrossing r time s.timebase }.boundary
    else s
  | _, _ => s

/-- R85, R86: a crossing on ZX. -/
def State.zeroCrossing (time : Nat) (s : State) : State :=
  if s.timebase.mainsClass = .unknown then s.measure time else s.crossing time

/-- ZERO_CROSSING. -/
def execZeroCrossing (time : Nat) (s : State) : Result := live s (State.zeroCrossing time)

/-- R87: a synthetic boundary at the Timebase. -/
def flywheel (reference period : Nat) (t : Timebase) : Timebase :=
  { t with reference := some (reference + period), syntheticRun := satSucc 8 t.syntheticRun, acceptedRun := 0 }

/-- R87, R88: the acceptance span has ended with no crossing: a synthetic boundary, and MAINS_LOST at the eighth in a row. -/
def State.synthetic (s : State) : State :=
  match s.timebase.reference, s.timebase.period with
  | some r, some p =>
    if s.timebase.mainsClass = .unknown then s
    else
      let s := s.takeRaised
      let s := { s with timebase := flywheel r p s.timebase }.boundary
      if s.timebase.syntheticRun = 8 && !s.timebase.mainsLost then s.setMainsLost else s
  | _, _ => s

/-- SYNTHETIC_BOUNDARY. -/
def execSyntheticBoundary (s : State) : Result := live s State.synthetic

/-- R88: the synthetic run, at 7, reaches 8 (log entry 4). -/
def State.mainsLostSet (s : State) : State :=
  if 7 ≤ s.timebase.syntheticRun && !s.timebase.mainsLost then s.setMainsLost else s

/-- MAINS_LOST_SET. -/
def execMainsLostSet (s : State) : Result := live s State.mainsLostSet

/-- R88: the accepted run, at 3, reaches 4 (log entry 4). -/
def State.mainsLostClear (s : State) : State :=
  if 3 ≤ s.timebase.acceptedRun && s.timebase.mainsLost then
    { s with timebase := { s.timebase with acceptedRun := 4, mainsLost := false } }
  else s

/-- MAINS_LOST_CLEAR. -/
def execMainsLostClear (s : State) : Result := live s State.mainsLostClear

end Sys2Proof.Machine
end

