-- ==== Sys2Proof/Machine/Supervising.lean ====
section
/-! DEFINITION. The Supervisor's own events (spec/10): panel state, the stop line, the end of an overvoltage drive, and the
commands OVERVOLTAGE_DRIVE_RELEASE, STOP_LINE_ASSERTION and STOP_LINE_RELEASE. -/

namespace Sys2Proof.Machine

open Sys2Proof

/-! ### Panel state (R164) -/

/-- R164: a well-formed PANEL_STATE from a panel acts on the module state. -/
def State.actOnPanel (p : PanelState) (s : State) : State :=
  match s.sup.state, p with
  | .quiet, .on => s.enterRunOrStopped
  | .run, .standby => s.enterQuietOrStopped
  | _, _ => s

/-- R164: the receipt sets the last panel state and the absence count, then acts on the module state. -/
def State.takePanel (p : PanelState) (s : State) : State :=
  { s with sup := { s.sup with lastPanel := p, absence := 0 } }.actOnPanel p

/-! ### The stop line (R103, R166, R168) -/

/-- R103, R166: another station drives the line asserted: drive is cut, and a module in QUIET or RUN enters STOPPED. -/
def State.stopLineAssertion (s : State) : State :=
  { s with sup := { s.sup with stopExternal := true } }.cutAll.senseStop

/-- STOP_LINE_ASSERTION. The level of the pin is taken over even while the device is held in reset (log entry 2). -/
def execStopLineAssertion (s : State) : Result :=
  .next (if s.sup.held then { s with sup := { s.sup with stopExternal := true } } else s.stopLineAssertion)

/-- R168: no other station drives the line any longer. While the module drives it itself the line stays asserted. -/
def State.stopLineRelease (s : State) : State := { s with sup := { s.sup with stopExternal := false } }.senseStop

/-- STOP_LINE_RELEASE. The level of the pin is taken over even while the device is held in reset (log entry 2). -/
def execStopLineRelease (s : State) : Result :=
  .next (if s.sup.held then { s with sup := { s.sup with stopExternal := false } } else s.stopLineRelease)

/-! ### The end of an overvoltage drive (R169) -/

/-- R169: the clear run, at 15, reaches 16 (log entry 4). -/
def State.overvoltageDriveRelease (s : State) : State :=
  if s.sup.overvoltageDrive && 15 ≤ s.sup.clearRun then s.endOvervoltageDrive else s

/-- OVERVOLTAGE_DRIVE_RELEASE. -/
def execOvervoltageDriveRelease (s : State) : Result := live s State.overvoltageDriveRelease

end Sys2Proof.Machine
end

