-- ==== Sys2Proof/Machine/Linking.lean ====
section
/-! DEFINITION. The Link Controller on the line (spec/08): the idle line and the selection of a frame, contention, collision, the
end of an own frame, and the commands LINE_IDLE, CONTENTION_LOST, CONTENTION_WON, COLLISION, OWN_FRAME_END and ALONE_SET. -/

namespace Sys2Proof.Machine

open Sys2Proof

/-! ### The idle line and the selection (R133, R143) -/

/-- R143: of two waiting entries, the older first, the higher level, then the lower kind number, then the older. -/
def betterEntry (a b : QueueEntry) : QueueEntry :=
  if a.level < b.level then b
  else if b.level < a.level then a
  else if b.key.kindNumber < a.key.kindNumber then b
  else a

/-- R143: the entry to start. -/
def selectEntry (q : List QueueEntry) : Option QueueEntry :=
  match q.filter fun e => !e.contending with
  | [] => none
  | e :: es => some (es.foldl betterEntry e)

/-- The entry that is contending. -/
def contendingEntry (q : List QueueEntry) : Option QueueEntry := q.find? fun e => e.contending

/-- The entry of a key is marked contending. -/
def markContending (key : Key) (q : List QueueEntry) : List QueueEntry :=
  q.map fun e => if e.key = key then { e with contending := true } else e

/-- The module has no frame of its own on the line. -/
def Link.quiet (l : Link) : Bool := (contendingEntry l.queue).isNone && l.sending.isNone

/-- R133: the selected entry starts; its start mark ends the idle line. -/
def Link.startFrame (l : Link) : Link :=
  match selectEntry l.queue with
  | none => { l with lineIdle := true }
  | some e => { l with queue := markContending e.key l.queue, lineIdle := false }

/-- R131, R133, R138: 11 recessive bits have been seen, which ends a receiver's wait for idle. A module in SILENT starts nothing. -/
def State.lineIdle (s : State) : State :=
  let s := { s with link := { s.link with awaitsIdle := false } }
  if s.sup.state = .silent then { s with link := { s.link with lineIdle := true } }
  else if s.link.quiet then { s with link := s.link.startFrame }
  else s

/-- LINE_IDLE. -/
def execLineIdle (s : State) : Result := live s State.lineIdle

/-! ### Contention (R134, R142) -/

/-- R134, R142: the contending entry returns to waiting in its place, with any replacement applied. -/
def returnToWaiting (q : List QueueEntry) : List QueueEntry :=
  q.map fun e =>
    if e.contending then { e with contending := false, payload := e.replacement.getD e.payload, replacement := none } else e

/-- R134: contention is lost: the loss count rises and the entry waits again. -/
def State.contentionLost (s : State) : State :=
  match contendingEntry s.link.queue with
  | none => s
  | some _ => { s with link := { s.link with queue := returnToWaiting s.link.queue, losses := bump s.link.losses } }

/-- CONTENTION_LOST. -/
def execContentionLost (s : State) : Result := live s State.contentionLost

/-- R142: the new waiting entry of a held replacement. -/
def replacementEntry (e : QueueEntry) : List QueueEntry :=
  match e.replacement with
  | none => []
  | some p => [{ e with contending := false, payload := p, replacement := none }]

/-- R132, R134: the frame of an entry on the line. -/
def sentFrameOf (position : Position) (e : QueueEntry) : SentFrame :=
  { key := e.key, level := e.level, payload := e.payload
    bits := wireBits e.level e.key.kindNumber position.val e.payload }

/-- R134, R142, R145: contention is won: the entry leaves the queue, its replacement enters as the newest, and the module is
not blocked. -/
def State.contentionWon (s : State) : State :=
  match contendingEntry s.link.queue with
  | none => s
  | some e =>
    { s with
      link :=
        { s.link with
          queue := (s.link.queue.filter fun x => !x.contending) ++ replacementEntry e
          sending := some (sentFrameOf s.sup.position e)
          blockedCount := 0
          linkBlocked := false
          wonInWindow := true } }

/-- CONTENTION_WON. -/
def execContentionWon (s : State) : Result := live s State.contentionWon

/-! ### Collision (R135) -/

/-- R135: a mismatch after contention: the frame is abandoned and a position clash reported. -/
def State.collision (s : State) : State :=
  match s.link.sending with
  | none => s
  | some _ => { s with link := { s.link with sending := none } }.reportClash

/-- COLLISION. -/
def execCollision (s : State) : Result := live s State.collision

/-! ### The end of an own frame (R136, R137) -/

/-- R136, R137: ALONE is set as the unheard streak reaches 5, and the interval count with it. -/
def Link.setAlone (l : Link) : Link := { l with unheard := 5, alone := true, interval := 0 }

/-- R136: the acknowledge slot. -/
def Link.readAcknowledge (acknowledged : Bool) (l : Link) : Link :=
  if acknowledged then { l with unheard := 0, alone := false }
  else if l.unheard = 4 then l.setAlone
  else { l with unheard := bump l.unheard }

/-- R136: the reject slot. -/
def Link.readReject (rejected : Bool) (l : Link) : Link := if rejected then { l with rejects := bump l.rejects } else l

/-- R136, R138: the end of an own frame: both slots are read, neither was driven. -/
def Link.endFrame (acknowledged rejected : Bool) (l : Link) : Link :=
  ({ l with sending := none, ackDriven := false, rejectDriven := false }.readAcknowledge acknowledged).readReject rejected

/-- R136: the module's own frame, if one is on the line, ends. -/
def State.ownFrameEnd (acknowledged rejected : Bool) (s : State) : State :=
  match s.link.sending with
  | none => s
  | some _ => { s with link := s.link.endFrame acknowledged rejected }

/-- OWN_FRAME_END. -/
def execOwnFrameEnd (acknowledged rejected : Bool) (s : State) : Result := live s (State.ownFrameEnd acknowledged rejected)

/-- R136: the unheard streak, at 4, reaches 5 (log entry 4). -/
def State.aloneSet (s : State) : State := if s.link.unheard = 4 then { s with link := s.link.setAlone } else s

/-- ALONE_SET. -/
def execAloneSet (s : State) : Result := live s State.aloneSet

end Sys2Proof.Machine
end

