-- ==== Sys2Proof/Machine/Receiving.lean ====
section
/-! DEFINITION. Frames received (spec/08, R138 to R140, R146, R147): the two slots, the handling by kind and source, the peer
roster and fragment table, and the commands FRAME_REJECT, PANEL_STATE, PAN_SETTING, FRAGMENT, MODULE_STATUS, PAN_NOTICE,
POSITION_CLASH and IGNORED_KIND_FRAME. -/

namespace Sys2Proof.Machine

open Sys2Proof

/-- The module position a frame comes from, none for a panel. -/
def modulePosition (source : LinkPos) : Option Position := if h : source.val < 8 then some ⟨source.val, h⟩ else none

/-! ### The slots (R138) -/

/-- R138: a frame has been received to its end; what the module drove in its two slots. Its bits ended the idle line (R131). -/
def State.markSlots (ack reject : Bool) (s : State) : State :=
  { s with link := { s.link with lineIdle := false, ackDriven := ack, rejectDriven := reject } }

/-- R139, R152: a malformed frame is dropped and counted. -/
def State.countMalformed (s : State) : State := { s with link := { s.link with malformed := bump s.link.malformed } }

/-! ### The peer tables (R146, R147) -/

/-- R146: a status is stored in the roster at age 0. -/
def State.storeStatus (q : Position) (st : Status) (s : State) : State :=
  { s with link := { s.link with roster := s.link.roster.set q { content := some st, age := 0 } } }

/-- A peer entry is the one of a source and tag. -/
def PeerEntry.isOf (q : Position) (t : Tag) (e : PeerEntry) : Bool := e.source = q && e.report.tag = t

/-- R147: the table with a report stored: replaced and moved to the end, or appended; a full table loses its oldest entry. -/
def storePeer (q : Position) (r : Report) (peers : List PeerEntry) : List PeerEntry :=
  let others := peers.filter fun e => !e.isOf q r.tag
  (if others.length < Config.peerTableSize then others else others.drop 1) ++ [{ source := q, report := r, age := 0 }]

/-- R147: the entry a store removes from a full table. -/
def evictedPeer (q : Position) (r : Report) (peers : List PeerEntry) : Option PeerEntry :=
  let others := peers.filter fun e => !e.isOf q r.tag
  if others.length < Config.peerTableSize then none else others.head?

/-- R42, R147: the test of the removal that a store into a full table makes (log entry 20). -/
def State.testEvicted (e : Option PeerEntry) (s : State) : State :=
  match e with
  | none => s
  | some x => s.confirmIfGone x.report.tag

/-- R147: a report with area above 0 is stored; the tests of R42, R41 and R60 follow. -/
def State.storeReport (q : Position) (r : Report) (s : State) : State :=
  let stored := { s with link := { s.link with peers := storePeer q r s.link.peers } }
  ((stored.testEvicted (evictedPeer q r s.link.peers)).departIfLifted r.tag).followHome r

/-- R42, R147: a closed report removes the entry of its source and tag, if there is one; the test of R42 follows a removal. -/
def State.closePeer (q : Position) (t : Tag) (s : State) : State :=
  if s.link.peers.any (PeerEntry.isOf q t) then
    { s with link := { s.link with peers := s.link.peers.filter fun e => !e.isOf q t } }.confirmIfGone t
  else s

/-! ### Frames by kind, from the right range of sources (R139) -/

/-- R139, R153, R164. -/
def State.receivePanelState (payload : List Byte) (s : State) : State :=
  match decodePanelState payload with
  | none => s.countMalformed
  | some p => s.takePanel p

/-- R139, R154, R47. -/
def State.receiveSetting (payload : List Byte) (s : State) : State :=
  match decodeSetting payload with
  | none => s.countMalformed
  | some st => s.takeSetting st

/-- R139, R156, R147. -/
def State.receiveFragment (q : Position) (payload : List Byte) (s : State) : State :=
  match decodeFragment payload with
  | none => s.countMalformed
  | some (.closed t) => s.closePeer q t
  | some (.report r) => s.storeReport q r

/-- R139, R158, R146. -/
def State.receiveStatus (q : Position) (payload : List Byte) (s : State) : State :=
  match decodeStatus payload with
  | none => s.countMalformed
  | some st => s.storeStatus q st

/-- R139: the frame kinds the table names. -/
inductive FrameKind where
  | panelState
  | panSetting
  | fragment
  | moduleStatus
  | panNotice
  | ignored
  deriving DecidableEq, Repr

/-- R139: the kind of a kind number. -/
def frameKind (kind : BitVec 4) : FrameKind :=
  match kind.toNat with
  | 1 => .panelState
  | 2 => .panSetting
  | 3 => .fragment
  | 4 => .moduleStatus
  | 5 => .panNotice
  | _ => .ignored

/-- R139: a frame not from the module's own position, by its kind and its source. -/
def State.handleFrame (kind : FrameKind) (source : LinkPos) (payload : List Byte) (s : State) : State :=
  match kind, modulePosition source with
  | .panelState, none => s.receivePanelState payload
  | .panSetting, none => s.receiveSetting payload
  | .fragment, some q => s.receiveFragment q payload
  | .moduleStatus, some q => s.receiveStatus q payload
  | _, _ => s

/-- R138: bits pass that the module does not receive, in SILENT or while its receiver waits for idle: it drives neither slot. -/
def State.passFrame (s : State) : State := s.markSlots false false

/-- R138: a filler violation: neither slot is driven, and the receiver waits for idle. -/
def State.violateFiller (s : State) : State :=
  { s.markSlots false false with link := { (s.markSlots false false).link with awaitsIdle := true } }

/-- R138 to R140: a frame heard whole: its acknowledge slot is driven, then it is a clash or is handled by R139. -/
def State.takeFrame (kind : FrameKind) (source : LinkPos) (payload : List Byte) (s : State) : State :=
  if !s.receives then s.passFrame
  else if modulePosition source = some s.sup.position then (s.markSlots true false).reportClash
  else (s.markSlots true false).handleFrame kind source payload

/-- R138: the frame on the line, by what the receiver makes of its bits. -/
def State.receiveLine (bits : List Bool) (s : State) : State :=
  if !s.receives then s.passFrame
  else
    match receiveBits bits with
    | .violation => s.violateFiller
    | .wrongCheck => s.markSlots false true
    | .whole kind source payload => s.takeFrame (frameKind kind) source payload

/-! ### The commands -/

/-- FRAME_REJECT: bits on the line; a list that holds a whole frame with a correct check is taken as one. -/
def execFrameReject (bits : List Bool) (s : State) : Result := live s (State.receiveLine bits)

/-- PANEL_STATE. -/
def execPanelState (source : LinkPos) (payload : List Byte) (s : State) : Result :=
  live s (State.takeFrame .panelState source payload)

/-- PAN_SETTING. -/
def execPanSetting (source : LinkPos) (payload : List Byte) (s : State) : Result :=
  live s (State.takeFrame .panSetting source payload)

/-- FRAGMENT. -/
def execFragment (source : LinkPos) (payload : List Byte) (s : State) : Result :=
  live s (State.takeFrame .fragment source payload)

/-- MODULE_STATUS. -/
def execModuleStatus (source : LinkPos) (payload : List Byte) (s : State) : Result :=
  live s (State.takeFrame .moduleStatus source payload)

/-- PAN_NOTICE. -/
def execPanNotice (source : LinkPos) (payload : List Byte) (s : State) : Result :=
  live s (State.takeFrame .panNotice source payload)

/-- R140: a correct frame from the module's own position. -/
def State.positionClash (s : State) : State :=
  if !s.receives then s.passFrame else (s.markSlots true false).reportClash

/-- POSITION_CLASH. -/
def execPositionClash (s : State) : Result := live s State.positionClash

/-- IGNORED_KIND_FRAME: its payload is not read; a kind number of 1 to 5 is taken as a frame with no payload. -/
def execIgnoredKindFrame (kind : BitVec 4) (source : LinkPos) (s : State) : Result :=
  live s (State.takeFrame (frameKind kind) source [])

end Sys2Proof.Machine
end

