-- ==== Sys2Proof/Machine/Startup.lean ====
section
/-! DEFINITION. Reset and start-up (spec/11, R172 to R176): the commands RESET, END_OF_RESET and SETUP_READ_END. -/

namespace Sys2Proof.Machine

open Sys2Proof

/-! ### Reset (R172) -/

/-- R172: the cause recorded from what this reset has seen. -/
def recordedCause (sawPowerOn sawDip : Bool) : ResetCause :=
  if sawPowerOn then .powerOn else if sawDip then .supplyDip else .resetPin

/-- R172: a cause seen during a reset. -/
def Supervisor.seeCause (cause : ResetCause) (u : Supervisor) : Supervisor :=
  let on := u.sawPowerOn || cause = .powerOn
  let dip := u.sawDip || cause = .supplyDip
  { u with sawPowerOn := on, sawDip := dip, resetCause := recordedCause on dip }

/-- R172: the reset values of every block, the device held. The queue of commands, the level of the stop line's pin and the
model's own counter are not the device's and stay (log entries 1, 2, 5). -/
def State.restart (s : State) : State :=
  { State.reset with
    sup := { Supervisor.reset with sawPowerOn := false, sawDip := false, stopExternal := s.sup.stopExternal }
    freeUsed := s.freeUsed
    pending := s.pending }

/-- R172: a cause begins a reset, or extends the one in progress. -/
def State.resetBy (cause : ResetCause) (s : State) : State :=
  let s := if s.sup.held then s else s.restart
  { s with sup := s.sup.seeCause cause }

/-- RESET. -/
def execReset (cause : ResetCause) (s : State) : Result := .next (s.resetBy cause)

/-! ### The end of reset (R172, R173) -/

/-- R172 to R174: the cause is recorded, the straps are read, POS2 the most significant, and the setup memory read begins: SCS goes
low and the read command is sent (`State.scsHigh`, `State.smoBits`). -/
def State.endReset (straps : BitVec 3) (s : State) : State :=
  { s with
    sup :=
      { s.sup with
        resetCause := recordedCause s.sup.sawPowerOn s.sup.sawDip
        position := straps.toFin
        held := false
        reading := true } }

/-- END_OF_RESET, of a device held in reset. -/
def execEndOfReset (straps : BitVec 3) (s : State) : Result := .next (if s.sup.held then s.endReset straps else s)

/-! ### The setup memory (R174 to R176) -/

/-- R10: a coil takes its fitted bit, and its floor when it is fitted. -/
def loadCoil (su : CoilSetup) (c : Coil) : Coil :=
  { c with fitted := su.fitted, floor := if su.fitted then su.floor else c.floor }

/-- R176, Setup good: the image is loaded with the clamps applied. -/
def State.loadSetup (su : Setup) (s : State) : State :=
  { s with
    setupGood := true
    setup := su
    coils := s.coils.mapIx fun i c => loadCoil (su.coils.get i) c
    drive := { s.drive with frequency := su.startFrequency } }

/-- R176, Setup bad: nothing is loaded, and the module enters SETUP_FAULT with the code. -/
def State.failSetup (code : Nat) (s : State) : State :=
  { s with sup := { s.sup with state := .setupFault, faultCode := code } }

/-- R174: the 128 bytes held as the setup image; a memory that gives no byte reads FFh. -/
def heldImage (image : List Byte) : List Byte := (List.range 128).map fun a => image.getD a 255#8

/-- R174 to R176: the read ends and its image is judged. -/
def State.setupReadEnd (image : List Byte) (s : State) : State :=
  if s.sup.reading then
    let s := { s with image := heldImage image, sup := { s.sup with reading := false } }
    if setupFaultCode image = 0 then s.loadSetup (readSetup image) else s.failSetup (setupFaultCode image)
  else s

/-- SETUP_READ_END. -/
def execSetupReadEnd (image : List Byte) (s : State) : Result := live s (State.setupReadEnd image)

end Sys2Proof.Machine
end

