-- ==== Sys2Proof/Machine/Dispatch.lean ====
section
/-! DEFINITION. Every command to its meaning: one arm per row of spec/opcode_table.json, in the table's order. -/

namespace Sys2Proof.Machine

open Sys2Proof

/-- The effect of a command on everything but the queue of waiting commands. -/
def exec (i : Instr) (s : State) : Host.Outcome State Fault Refusal :=
  match i with
  | .reset cause => Sys2Proof.Machine.execReset cause s
  | .endOfReset straps => Sys2Proof.Machine.execEndOfReset straps s
  | .setupReadEnd image => Sys2Proof.Machine.execSetupReadEnd image s
  | .loadingExit => Sys2Proof.Machine.execLoadingExit s
  | .zeroCrossing time => Sys2Proof.Machine.execZeroCrossing time s
  | .syntheticBoundary => Sys2Proof.Machine.execSyntheticBoundary s
  | .mainsLostSet => Sys2Proof.Machine.execMainsLostSet s
  | .mainsLostClear => Sys2Proof.Machine.execMainsLostClear s
  | .windowStart => Sys2Proof.Machine.execWindowStart s
  | .faultEnd coil => Sys2Proof.Machine.execFaultEnd coil s
  | .peerFragmentAgeOut source tag => Sys2Proof.Machine.execPeerFragmentAgeOut source tag s
  | .linkBlockedSet => Sys2Proof.Machine.execLinkBlockedSet s
  | .temperatureReadings coilCodes sinkCode => Sys2Proof.Machine.execTemperatureReadings coilCodes sinkCode s
  | .probePulseEnd time => Sys2Proof.Machine.execProbePulseEnd time s
  | .ringMark detector time => Sys2Proof.Machine.execRingMark detector time s
  | .ringDecayed detector => Sys2Proof.Machine.execRingDecayed detector s
  | .timeLimit detector => Sys2Proof.Machine.execTimeLimit detector s
  | .allocationPoint => Sys2Proof.Machine.execAllocationPoint s
  | .secondTick => Sys2Proof.Machine.execSecondTick s
  | .cacheExpiry tag => Sys2Proof.Machine.execCacheExpiry tag s
  | .stepEnd tag => Sys2Proof.Machine.execStepEnd tag s
  | .graceExpiry tag => Sys2Proof.Machine.execGraceExpiry tag s
  | .panelAbsence => Sys2Proof.Machine.execPanelAbsence s
  | .currentSample coil count sample => Sys2Proof.Machine.execCurrentSample coil count sample s
  | .busConversion value => Sys2Proof.Machine.execBusConversion value s
  | .overvoltageDriveRelease => Sys2Proof.Machine.execOvervoltageDriveRelease s
  | .stopLineAssertion => Sys2Proof.Machine.execStopLineAssertion s
  | .stopLineRelease => Sys2Proof.Machine.execStopLineRelease s
  | .lineIdle => Sys2Proof.Machine.execLineIdle s
  | .contentionLost => Sys2Proof.Machine.execContentionLost s
  | .contentionWon => Sys2Proof.Machine.execContentionWon s
  | .collision => Sys2Proof.Machine.execCollision s
  | .ownFrameEnd acknowledged rejected => Sys2Proof.Machine.execOwnFrameEnd acknowledged rejected s
  | .aloneSet => Sys2Proof.Machine.execAloneSet s
  | .frameReject bits => Sys2Proof.Machine.execFrameReject bits s
  | .panelState source payload => Sys2Proof.Machine.execPanelState source payload s
  | .panSetting source payload => Sys2Proof.Machine.execPanSetting source payload s
  | .fragment source payload => Sys2Proof.Machine.execFragment source payload s
  | .moduleStatus source payload => Sys2Proof.Machine.execModuleStatus source payload s
  | .panNotice source payload => Sys2Proof.Machine.execPanNotice source payload s
  | .positionClash => Sys2Proof.Machine.execPositionClash s
  | .driveCounterMatch count => Sys2Proof.Machine.execDriveCounterMatch count s
  | .ignoredKindFrame kind source => Sys2Proof.Machine.execIgnoredKindFrame kind source s

end Sys2Proof.Machine
end

