-- ==== Sys2Proof/Safety.lean ====
section
/-! DEFINITION. What a sound state of the module is, in the terms the claims use: start-up, the sweep and the drive; the bounded
tables and their keys; the program states; the frequency and the floors. Each is kept by every command. And what a cut, a module
state entry, a half-cycle boundary and a tracking update with its steps leave of the state before, and what they hand to the
transmit queue. -/

namespace Sys2Proof.Machine

open Sys2Proof

/-- Start-up: a module held in reset or reading its setup is in LOADING with nothing loaded, and a module in QUIET, RUN or
STOPPED has a good setup and knows its mains class (R163, R172, R174, R177). -/
structure State.StartSound (s : State) : Prop where
  held_loading : s.sup.held = true → s.sup.state = .loading ∧ s.setupGood = false
  reading_loading : s.sup.reading = true → s.sup.state = .loading ∧ s.setupGood = false
  bad_not_loaded : s.sup.state = .setupFault → s.setupGood = false
  running_ready :
    s.sup.state = .quiet ∨ s.sup.state = .run ∨ s.sup.state = .stopped →
      s.setupGood = true ∧ s.timebase.mainsClass ≠ .unknown

/-- The sweep and the events of the boundaries: a sweep is in flight only in RUN, in slot 0 or before the allocation point of
slot 1 is taken (R1, R6, R7, R89). -/
structure State.SweepSound (s : State) : Prop where
  in_run : s.probe.sweep ≠ none → s.sup.state = .run
  in_slot : s.probe.sweep ≠ none → s.timebase.halfCycle = 0 ∨ s.timebase.allocationRaised = true
  window_slot : s.timebase.windowStartRaised = true → s.timebase.halfCycle = 0
  allocation_slot : s.timebase.allocationRaised = true → s.timebase.halfCycle = 1
  waits : s.timebase.allocationRaised = true → ∀ i, s.drive.driven.get i = false

/-- What a density above 0 and a driven coil require, and the two pins of a half-bridge, probe pulse included (R2, R92, R94,
R99, R101 to R103). -/
structure State.DriveSound (s : State) : Prop where
  heating_iff : ∀ i, (s.coils.get i).heating = decide (0 < s.drive.density.get i)
  density_range : ∀ i, s.drive.density.get i ≤ 15
  density_run : ∀ i, 0 < s.drive.density.get i → s.sup.state = .run
  density_free : ∀ i, 0 < s.drive.density.get i → s.inhibited = false ∧ s.stopAsserted = false
  density_state : ∀ i, 0 < s.drive.density.get i → coilState (s.coils.get i) = .heating
  density_lift : ∀ i, 0 < s.drive.density.get i → (s.coils.get i).liftSuspected = false
  driven_density : ∀ i, s.drive.driven.get i = true → 0 < s.drive.density.get i
  driven_slot :
    ∀ i, s.drive.driven.get i = true →
      s.timebase.halfCycle ≠ 0 ∧ s.timebase.halfCycle.val ∈ s.drive.pattern.get i
  high_driven : ∀ i, s.drive.highGate.get i = true → s.drive.driven.get i = true
  low_driven : ∀ i, s.drive.lowGate.get i = true → s.drive.driven.get i = true
  never_both : ∀ i, s.highPin i = true → s.lowPin i = false

/-- A module whose coils are driven, probed and stopped as the rules say. -/
structure State.Safe (s : State) : Prop where
  start : s.StartSound
  sweep : s.SweepSound
  drive : s.DriveSound

/-- Nothing is driven: densities 0, gates off, heating flags clear, no half-cycle in flight (R103, R118). -/
structure State.DriveOff (s : State) : Prop where
  density : s.drive.density = Eight.fill 0
  driven : s.drive.driven = Eight.fill false
  high : s.drive.highGate = Eight.fill false
  low : s.drive.lowGate = Eight.fill false
  heating : ∀ i, (s.coils.get i).heating = false
  flight : s.sense.acc = Eight.fill Accumulator.clear

/-- What cutting every coil of `s` leaves in the Drive Unit, the Coil Table and the Sense Unit of `t` (R96, R102, R103, R118). -/
structure State.AllCut (s t : State) : Prop where
  coils : t.coils = s.coils.map fun c => { c with heating := false }
  drive :
    t.drive =
      { s.drive with
        density := Eight.fill 0
        driven := Eight.fill false
        highGate := Eight.fill false
        lowGate := Eight.fill false
        cutLoss := min 4095 (s.drive.cutLoss + (Eight.ofFn s.cutLossOf).sum) }
  sense : t.sense = { s.sense with acc := Eight.fill Accumulator.clear }

/-! ### What is handed to the transmit queue -/

/-- A PAN_NOTICE of a tag is handed to the queue (R44, R58, R159). -/
def Link.notify (level : Nat) (l : Link) (tag : Tag) (kind : NoticeKind) (detail : Nat) : Link :=
  l.hand (.notice (some tag) kind) level (encodeNotice (some tag) kind detail)

/-- A notice for each of a list of lifted entries is handed to the queue, in the order of the list (log entry 34). -/
def Link.notifyEach (level : Nat) (kind : LiftedEntry → NoticeKind) (entries : List LiftedEntry) (l : Link) : Link :=
  entries.foldl (fun l e => l.notify level e.tag (kind e) 0) l

/-- R42: confirming the unconfirmed entries of a tag hands the notices of their causes to the queue, where this module was home. -/
def State.causesHanded (s : State) (tag : Tag) (l : Link) : Link :=
  l.notifyEach s.setup.noticeLevel (fun e => e.cause.notice)
    (s.tracker.lifted.filter fun e => decide (e.tag = tag) && !e.confirmed && e.wasHome)

/-- R171: the numbers of the conditions active in `s`, in rising order. -/
def State.Active (s : State) (conditions : List Nat) : Prop :=
  (∀ n,
    n ∈ conditions ↔
      n = 1 ∧ s.timebase.mainsLost = true ∨ n = 2 ∧ s.link.linkBlocked = true ∨ n = 3 ∧ s.sense.sinkHot = true ∨
        n = 4 ∧ (∃ i, (s.coils.get i).fitted = true ∧ (s.coils.get i).faultRetries = 3) ∨
        n = 5 ∧ (s.sense.sinkFault = true ∨ ∃ i, (s.coils.get i).fitted = true ∧ (s.coils.get i).sensorFault = true) ∨
        n = 6 ∧ s.drive.role = .refused ∨ n = 7 ∧ s.drive.role = .lost ∨ n = 8 ∧ s.link.alone = true) ∧
  conditions.Pairwise fun a b => a < b

/-- R157, Table 9-6: `st` is the status that the module forms in `s` with D, G and M of 0 and empty masks, as it does in every state
that sends one but RUN, and in RUN where its figures are 0 and no coil is assigned. -/
def State.IdleStatus (s : State) (st : Status) : Prop :=
  ∃ conditions, s.Active conditions ∧
    st =
      { stateCode :=
          match s.sup.state with
          | .setupFault => 1
          | .quiet => 2
          | .run => 3
          | .stopped => 4
          | _ => 0
        phase := if s.setupGood then s.setup.phase else .a
        causeCode := resetCauseCode s.sup.resetCause
        demand := 0
        grant := 0
        maximum := 0
        frequency := s.drive.handedFrequency
        role := s.drive.role
        chainFloor := s.drive.lockFloor
        leftMask := 0
        rightMask := 0
        faultTop := conditions.headD 0
        faultCount := conditions.length
        byte12 :=
          match s.sup.state with
          | .setupFault => s.sup.faultCode
          | .stopped => if s.sup.stopCause = .external then 1 else if s.sup.stopCause = .ownOvervolt then 2 else 0
          | _ => 0
        losses := s.link.losses
        rejects := s.link.rejects
        unheard := s.link.unheard
        dropped := s.link.dropped
        malformed := s.link.malformed
        shortfall := s.drive.published }

/-- R142, R150: the queue in which a waiting MODULE_STATUS has the payload of a new one and a contending one holds it as its
replacement. -/
def statusReplaced (payload : List Byte) (q : List QueueEntry) : List QueueEntry :=
  q.map fun e =>
    if e.key = .status then
      (if e.contending = true then { e with replacement := some payload } else { e with payload := payload })
    else e

/-- R93, R137: the status of a hand-over reaches the queue, under ALONE at interval count 0 only. -/
def Link.statusHanded (level : Nat) (st : Status) (l : Link) : Link :=
  if l.alone = false then l.hand .status level (encodeStatus st)
  else
    { (if l.interval = 0 then l.hand .status level (encodeStatus st) else l) with interval := (l.interval + 1) % 8 }

/-! ### Entries of the module states -/

/-- `l` after an entry of QUIET or STOPPED that leaves the link `u`: its queue apart, only the slots of the frame that brings the entry
differ (R138, R150). -/
def Link.entered (l u : Link) : Link :=
  { l with queue := u.queue, lineIdle := u.lineIdle, ackDriven := u.ackDriven, rejectDriven := u.rejectDriven }

/-- What STOPPED entry leaves of `s` in `t` besides the cut of the drive. The cut loss is that of log entry 12 (R150, R166). -/
structure State.StoppedFrom (s t : State) : Prop where
  cut : s.AllCut t
  probe : t.probe = { s.probe with sweep := none, unit0 := Capture.off, unit1 := Capture.off }
  cache : t.cache = []
  pans : t.tracker.pans = s.tracker.pans.map fun f => { f with program := none, share := 0 }
  lifted : t.tracker.lifted = s.tracker.lifted.map fun e => { e with program := none }
  serial : t.tracker.serial = s.tracker.serial
  figures : t.alloc = Allocator.zero
  state : t.sup.state = .stopped
  queue : ∃ st, t.IdleStatus st ∧ t.link.queue = statusReplaced (encodeStatus st) s.link.queue
  link : t.link = s.link.entered t.link
  rest :
    t =
      { s with
        probe := t.probe, coils := t.coils, tracker := t.tracker, cache := t.cache, alloc := t.alloc, drive := t.drive
        sense := t.sense, link := t.link, sup := t.sup }

/-- What QUIET entry leaves of `s` in `t`. The cut loss is that of log entry 12 (R19, R102, R150, R167). -/
structure State.QuietFrom (s t : State) : Prop where
  off : t.DriveOff
  drive :
    t.drive =
      { s.drive with
        density := Eight.fill 0
        driven := Eight.fill false
        highGate := Eight.fill false
        lowGate := Eight.fill false
        cutLoss := min 4095 (s.drive.cutLoss + (Eight.ofFn s.cutLossOf).sum) }
  sense : t.sense = { s.sense with acc := Eight.fill Accumulator.clear }
  probe : t.probe = { s.probe with sweep := none, unit0 := Capture.off, unit1 := Capture.off }
  coils :
    ∀ i, (s.coils.get i).fitted = true →
      t.coils.get i =
        { s.coils.get i with
          presence := .absent, coverage := 0, floor := (s.setup.coils.get i).floor, liftSuspected := false, held := false,
          heating := false }
  unfitted : ∀ i, (s.coils.get i).fitted = false → t.coils.get i = { s.coils.get i with heating := false }
  tables : t.tracker = { s.tracker with pans := [], lifted := [] } ∧ t.cache = []
  figures : t.alloc = Allocator.zero
  state : t.sup.state = .quiet ∧ t.sup.lastPanel = .standby ∧ t.sup.stopCause = .none
  queue :
    ∃ st, t.IdleStatus st ∧
      t.link.queue =
        statusReplaced (encodeStatus st)
          ((s.link.queue.filter fun e => e.contending || decide (e.key = .status)).map fun e =>
            if e.key = .status then e else { e with replacement := none })
  link : t.link = s.link.entered t.link
  rest :
    t =
      { s with
        probe := t.probe, coils := t.coils, tracker := t.tracker, cache := t.cache, alloc := t.alloc, drive := t.drive
        sense := t.sense, link := t.link, sup := t.sup }

/-- What setting the densities of the coils of `cut` to 0 leaves of `s` in the Drive Unit, the heating flags and the accumulators of
`t`. The coils of `counted` among them add to the cut loss (R96, R100 to R103, R118). -/
structure State.CutOf (s t : State) (cut counted : CoilIx → Bool) : Prop where
  off :
    ∀ i, cut i = true →
      t.drive.density.get i = 0 ∧ t.drive.driven.get i = false ∧ t.drive.highGate.get i = false ∧
        t.drive.lowGate.get i = false ∧ (t.coils.get i).heating = false ∧ t.sense.acc.get i = Accumulator.clear
  kept :
    ∀ i, cut i = false →
      t.drive.density.get i = s.drive.density.get i ∧ t.drive.driven.get i = s.drive.driven.get i ∧
        t.drive.highGate.get i = s.drive.highGate.get i ∧ t.drive.lowGate.get i = s.drive.lowGate.get i ∧
        (t.coils.get i).heating = (s.coils.get i).heating ∧ t.sense.acc.get i = s.sense.acc.get i
  rest :
    t.drive =
      { s.drive with
        density := t.drive.density
        driven := t.drive.driven
        highGate := t.drive.highGate
        lowGate := t.drive.lowGate
        cutLoss := min 4095 (s.drive.cutLoss + (Eight.ofFn fun i => if cut i && counted i then s.cutLossOf i else 0).sum) }

/-- The coils R101 withdraws for want of a target: those with a density above 0 that no fragment of `t` with a current target above 0
holds. -/
def State.untargeted (s t : State) (i : CoilIx) : Bool := 0 < s.drive.density.get i && !t.targeted i

/-! ### A half-cycle boundary -/

/-- No event of an earlier boundary waits to be taken (log entry 3), LOADING does not end at the next boundary, and the bus report
that the next one hands over does not end an overvoltage drive (that it would come before the events of its boundary: log entry 35). -/
structure State.Settled (s : State) : Prop where
  window : s.timebase.windowStartRaised = false
  allocation : s.timebase.allocationRaised = false
  second : s.timebase.secondTickRaised = false
  loading : s.sup.state = .loading → s.setupGood = false
  drive : s.sup.overvoltageDrive = true → s.setupGood = true → s.sense.busHigh = true ∨ s.sup.clearRun < 15

/-- R117: the boundary that closes the half-cycle of coil `i` forms the half-cycle power `p`. -/
def State.FormsPower (s : State) (i : CoilIx) (p : Nat) : Prop :=
  let a := s.sense.acc.get i
  a.inFlight = true ∧ 0 < a.count ∧ (p : Int) = max 0 (min 1023 ((a.sum + 400 * a.count) / (800 * a.count)))

/-- R122: the closing boundary, the sag comparator having accepted the half-cycle, raises LIFT for coil `i`. -/
def State.Lifts (s : State) (i : CoilIx) : Prop :=
  ∃ p, s.FormsPower i p ∧ s.setup.busMin ≤ s.sense.bus ∧ 4 ≤ s.powerTaken i ∧ 4 * p < s.powerTaken i

/-- What a half-cycle boundary leaves of `s` in `t` besides the Timebase: it closes the half-cycle in flight of every coil, judges its
power and starts the drive of the next slot, that of slot 1 apart (R91, R99, R115, R117, R118, R121 to R124). Which slots the cut of a
LIFT counts is log entry 12, and that no next half-cycle is opened for a lifted coil is log entry 30. -/
structure State.BoundaryFrom (s t : State) : Prop where
  lifted : ∀ i, s.Lifts i → (t.coils.get i).liftSuspected = true ∧ (t.coils.get i).heating = false ∧ t.drive.density.get i = 0
  kept :
    ∀ i, ¬ s.Lifts i →
      (t.coils.get i).liftSuspected = (s.coils.get i).liftSuspected ∧ (t.coils.get i).heating = (s.coils.get i).heating ∧
        t.drive.density.get i = s.drive.density.get i
  usable :
    ∀ i p, s.FormsPower i p → s.setup.busMin ≤ s.sense.bus → ¬ s.Lifts i →
      t.sense.window.get i = { sum := (s.sense.window.get i).sum + p, number := (s.sense.window.get i).number + 1 }
  unused :
    ∀ i, (∀ p, ¬ s.FormsPower i p) ∨ s.sense.bus < s.setup.busMin ∨ s.Lifts i → t.sense.window.get i = s.sense.window.get i
  cut_loss :
    s.timebase.halfCycle ≠ 0 →
      ∃ lift : CoilIx → Bool, (∀ i, lift i = true ↔ s.Lifts i) ∧
        t.drive.cutLoss =
          min 4095
            (s.drive.cutLoss +
              (Eight.ofFn fun i =>
                if lift i = true ∧ 0 < s.drive.density.get i then
                  ((s.drive.pattern.get i).filter fun n => s.timebase.halfCycle.val < n).length * s.powerTaken i / 15
                else 0).sum)
  driven :
    ∀ i,
      t.drive.driven.get i = true ↔
        1 < t.timebase.halfCycle.val ∧ 0 < t.drive.density.get i ∧ t.timebase.halfCycle.val ∈ t.drive.pattern.get i ∧
          t.inhibited = false ∧ t.stopAsserted = false ∧ t.sup.state = .run
  opened : ∀ i, t.sense.acc.get i = { inFlight := t.drive.driven.get i, sum := 0, count := 0 }
  coils :
    ∀ i,
      t.coils.get i =
        { s.coils.get i with
          liftSuspected := (t.coils.get i).liftSuspected
          heating := (t.coils.get i).heating
          drivenInWindow := (s.coils.get i).drivenInWindow || t.drive.driven.get i }
  drive :
    t.drive =
      { s.drive with
        density := t.drive.density
        driven := t.drive.driven
        highGate := Eight.fill false
        lowGate := Eight.fill false
        counter := 0
        cutLoss := t.drive.cutLoss }
  sense :
    t.sense =
      { s.sense with
        acc := t.sense.acc
        window := t.sense.window
        busRun := if t.timebase.halfCycle = 0 then 0 else s.sense.busRun
        busHigh := if s.setupGood = true then false else s.sense.busHigh }
  report :
    t.sup =
      { s.sup with
        clearRun :=
          if s.setupGood = true ∧ s.sup.overvoltageDrive = true then
            (if s.sense.busHigh = true then 0 else s.sup.clearRun + 1)
          else s.sup.clearRun }
  rest : t = { s with timebase := t.timebase, coils := t.coils, drive := t.drive, sense := t.sense, sup := t.sup }

/-! ### The ageing of a window start -/

/-- R42, R148: the tags of which a window start in RUN removes a peer entry, of age 3 or more, and leaves no report with area above 0, in
the order of the table (log entry 34). In every other state the test of R42 is not made. -/
def State.closedByAge (s : State) : List Tag :=
  if s.sup.state = .run then
    ((s.link.peers.filter fun e => decide (3 ≤ e.age)).map fun e => e.report.tag).eraseDups.filter fun tag =>
      decide (∀ e ∈ s.link.peers, e.age < 3 → e.report.tag = tag → e.report.area = 0)
  else []

/-- R42, R148: the link after the notices that the ageing of a window start hands to the queue. -/
def State.agedHanded (s : State) : Link := s.closedByAge.foldl (fun l tag => s.causesHanded tag l) s.link

/-! ### The tracking update -/

/-- The peer fragment table of `s` holds no report of the tag with area above 0. -/
abbrev State.Unreported (s : State) (tag : Tag) : Prop := ∀ e ∈ s.link.peers, e.report.tag = tag → e.report.area = 0

/-- R29: a peer report faces a coil set: it comes from a neighbour, and in a row in which the set holds the coil of the column towards
that neighbour its edge coverage is 24 or more. -/
def Faces (position : Position) (set : List CoilIx) (e : PeerEntry) : Prop :=
  0 < e.report.area ∧
    ∃ r : Row,
      position.val = e.source.val + 1 ∧ leftCoil r ∈ set ∧ 24 ≤ e.report.edge.get (rightCoil r) ∨
        e.source.val = position.val + 1 ∧ rightCoil r ∈ set ∧ 24 ≤ e.report.edge.get (leftCoil r)

/-- R32: a coil set of a tag touches a peer report: the report faces it in a row in which its own coil has a coverage of 24 or more
too, and has another tag. -/
def Touches (position : Position) (coils : Eight Coil) (tag : Option Tag) (set : List CoilIx) (e : PeerEntry) : Prop :=
  tag ≠ some e.report.tag ∧ Faces position (set.filter fun i => decide (24 ≤ (coils.get i).coverage)) e

/-- The notice requests of a tracking update that takes `s` to `t`, each of a tag and a kind (R30, R31, R36 to R38, Table 2-5). -/
structure State.Requested (s t : State) (requests : List (Tag × NoticeKind)) : Prop where
  /-- They stand in the order of the steps that make them: 4, 5, 8, 9, 10 (Table 2-3, note 2; log entry 34). -/
  order :
    ∃ resumed created entered upkeep contacts, requests = resumed ++ created ++ entered ++ upkeep ++ contacts ∧
      (∀ r ∈ resumed, r.2 = .returned) ∧ (∀ r ∈ created, r.2 = .appeared) ∧
      (∀ r ∈ entered, r.2 = .lifted ∨ r.2 = .merged) ∧
      (∀ r ∈ upkeep, r.2 = .returned ∨ r.2 = .lifted ∨ r.2 = .merged ∨ r.2 = .gone) ∧ ∀ r ∈ contacts, r.2 = .contact
  appeared_due : ∀ f ∈ t.tracker.pans, f.origin = .new → (f.tag, .appeared) ∈ requests
  appeared_only :
    s.tracker.pans.length ≤ 4 → s.tracker.lifted.length ≤ 4 → ∀ tag, (tag, .appeared) ∈ requests →
      tag.creator = s.sup.position ∧ (∀ g ∈ s.tracker.pans, g.tag ≠ tag) ∧ ∀ l ∈ s.tracker.lifted, l.tag ≠ tag
  /-- R22: the serial counter stands after the last new tag. -/
  serial :
    t.tracker.serial =
      match (requests.filter fun r => decide (r.2 = .appeared)).getLast? with
      | none => s.tracker.serial
      | some r => if r.1.serial.val = 4095 then 1 else r.1.serial + 1
  returned_due :
    (s.tracker.lifted.map fun l => l.tag).Nodup → ∀ l ∈ s.tracker.lifted, l.confirmed = true → l.wasHome = true →
      (∃ f ∈ t.tracker.pans, f.tag = l.tag) → (l.tag, .returned) ∈ requests
  returned_only :
    ∀ tag, (tag, .returned) ∈ requests → ∃ l ∈ s.tracker.lifted, l.tag = tag ∧ l.confirmed = true ∧ l.wasHome = true
  /-- A confirmed entry that has left the list has returned or is gone. -/
  left_due :
    (s.tracker.lifted.map fun l => l.tag).Nodup → ∀ l ∈ s.tracker.lifted, l.confirmed = true → l.wasHome = true →
      (∀ e ∈ t.tracker.lifted, e.tag ≠ l.tag) → (l.tag, .returned) ∈ requests ∨ (l.tag, .gone) ∈ requests
  gone_only :
    ∀ tag, (tag, .gone) ∈ requests →
      t.tracker.lifted.length = 4 ∧
        ((∃ l ∈ s.tracker.lifted, l.tag = tag ∧ l.wasHome = true ∧ (l.confirmed = true ∨ s.Unreported tag)) ∨
          ∃ g ∈ s.tracker.pans, g.tag = tag ∧ g.home = true ∧ s.Unreported tag)
  confirmed_due :
    ∀ e ∈ t.tracker.lifted, e.confirmed = true → e.wasHome = true →
      (∀ l ∈ s.tracker.lifted, l.tag = e.tag → l.confirmed = false) → (e.tag, e.cause.notice) ∈ requests
  confirmed_only :
    ∀ tag kind, (tag, kind) ∈ requests → kind = .lifted ∨ kind = .merged →
      s.Unreported tag ∧ (∀ f ∈ t.tracker.pans, f.tag ≠ tag) ∧
        ((∃ l ∈ s.tracker.lifted, l.tag = tag ∧ l.confirmed = false ∧ l.wasHome = true ∧ kind = l.cause.notice) ∨
          ∃ g ∈ s.tracker.pans, g.tag = tag ∧ g.program ≠ none ∧ g.home = true ∧
            kind = if ∃ f ∈ t.tracker.pans, ∃ i ∈ g.coils, i ∈ f.coils then .merged else .lifted)
  contact :
    (s.tracker.pans.map fun g => g.tag).Nodup → ∀ tag,
      ((tag, .contact) ∈ requests ↔
        ∃ f ∈ t.tracker.pans, f.tag = tag ∧ f.home = true ∧ f.panContact = true ∧
          ¬ (f.origin = .tracked ∧ ∃ g ∈ s.tracker.pans, g.tag = tag ∧ g.panContact = true))

/-- R40, R44, R155: what step 12 hands to the queue: a report of every fragment of the new pan table, a closed report of every
released tag, and the requests, each in the order of its list (log entry 34). -/
def State.updateHanded (s t : State) (requests : List (Tag × NoticeKind)) (l : Link) : Link :=
  let reported :=
    t.tracker.pans.foldl
      (fun l f =>
        l.hand (.fragment f.tag) s.setup.fragmentLevel
          (encodeReport
            { tag := f.tag
              area := f.area
              edge := f.edge
              published := f.program.map fun p => { program := p, target := currentTarget s.cache f }
              home := f.home
              contact := f.contact }))
      l
  let closed :=
    (s.tracker.pans.filter fun g => decide (∀ f ∈ t.tracker.pans, f.tag ≠ g.tag)).foldl
      (fun l g => l.hand (.fragment g.tag) s.setup.fragmentLevel (encodeClosed g.tag)) reported
  requests.foldl (fun l r => l.notify s.setup.noticeLevel r.1 r.2 0) closed

/-- What the tracking update makes: `t` holds the coil records it read and the tables it left, `s` the tables, the cache and the peer
fragments it read, `before` the link as it stood before step 12 (R25 to R40, R59, R64, R66). -/
structure State.TrackedFrom (s t : State) (before : Link) : Prop where
  covered : ∀ i, (t.coils.get i).coveredClass = true ↔ ∃ f ∈ t.tracker.pans, i ∈ f.coils
  disjoint : ∀ f ∈ t.tracker.pans, ∀ g ∈ t.tracker.pans, ∀ i ∈ f.coils, i ∈ g.coils → f = g
  whole :
    ∀ f ∈ t.tracker.pans, ∀ i ∈ f.coils, ∀ j,
      adjacentCoils i j = true → (t.coils.get j).coveredClass = true → j ∈ f.coils
  rising : ∀ f ∈ t.tracker.pans, f.coils ≠ [] ∧ f.coils.Pairwise fun i j => i < j
  area : ∀ f ∈ t.tracker.pans, f.area = (f.coils.map fun i => (t.coils.get i).coverage).sum
  edge : ∀ f ∈ t.tracker.pans, ∀ i, f.edge.get i = if i ∈ f.coils then (t.coils.get i).coverage else 0
  tags : (t.tracker.pans.map fun f => f.tag).Nodup
  tracked :
    ∀ f ∈ t.tracker.pans, f.origin = .tracked →
      ∃ g ∈ s.tracker.pans, g.tag = f.tag ∧ (∃ i ∈ f.coils, i ∈ g.coils) ∧ (g.program ≠ none → f.program = g.program)
  history :
    (s.tracker.pans.map fun g => g.tag).Nodup → ∀ g ∈ s.tracker.pans, g.program ≠ none →
      (∃ i ∈ g.coils, (t.coils.get i).coveredClass = true) →
      (∀ i ∈ g.coils, (t.coils.get i).coveredClass = true → ∀ h ∈ s.tracker.pans, ∀ j ∈ h.coils,
        j ∈ componentOf (fun k => (t.coils.get k).coveredClass) i → h = g) →
      ∃ f ∈ t.tracker.pans, f.tag = g.tag ∧ f.origin = .tracked ∧ f.program = g.program
  carried :
    ∀ f ∈ t.tracker.pans, f.origin = .carried →
      ∃ e ∈ s.link.peers, e.report.tag = f.tag ∧ Faces s.sup.position f.coils e
  resumed :
    ∀ f ∈ t.tracker.pans, f.origin = .resumed →
      ∃ l ∈ s.tracker.lifted, l.tag = f.tag ∧ (∃ i ∈ f.coils, i ∈ l.footprint) ∧ (l.program ≠ none → f.program = l.program)
  created :
    ∀ f ∈ t.tracker.pans, f.origin = .new →
      f.tag.creator = s.sup.position ∧ (∀ e ∈ s.link.peers, ¬ Faces s.sup.position f.coils e) ∧
        (s.tracker.pans.length ≤ 4 → s.tracker.lifted.length ≤ 4 →
          (∀ g ∈ s.tracker.pans, g.tag ≠ f.tag) ∧ ∀ l ∈ s.tracker.lifted, l.tag ≠ f.tag)
  home :
    ∀ f ∈ t.tracker.pans,
      f.home = true ↔
        ∀ e ∈ s.link.peers, e.report.tag = f.tag → 0 < e.report.area →
          e.report.area < f.area ∨ e.report.area = f.area ∧ s.sup.position < e.source
  contact :
    ∀ f ∈ t.tracker.pans, f.contact = true →
      ∃ e ∈ s.link.peers, e.report.published ≠ none ∧ Touches s.sup.position t.coils (some f.tag) f.coils e
  pan_contact :
    ∀ f ∈ t.tracker.pans,
      f.panContact = true ↔
        f.contact = true ∨ ∃ e ∈ s.link.peers, e.report.tag = f.tag ∧ 0 < e.report.area ∧ e.report.contact = true
  joined : ∀ f ∈ t.tracker.pans, ∀ e, cacheEntry s.cache f.tag = some e → f.program ≠ none
  share :
    ∀ f ∈ t.tracker.pans,
      f.share =
        match s.tracker.pans.find? fun g => g.tag = f.tag with
        | some g => g.share
        | none => 0
  computes :
    (s.alloc.joined = true → t.alloc.joined = true) ∧
      ((∀ g ∈ s.tracker.pans, g.program = none) → (∀ l ∈ s.tracker.lifted, l.program = none) →
        (t.alloc.joined = true ↔ s.alloc.joined = true ∨ ∃ f ∈ t.tracker.pans, f.program ≠ none))
  lifted_size : t.tracker.lifted.length ≤ 4
  apart : ∀ e ∈ t.tracker.lifted, ∀ f ∈ t.tracker.pans, e.tag ≠ f.tag
  entries :
    ∀ e ∈ t.tracker.lifted,
      (∃ l ∈ s.tracker.lifted, e = { l with confirmed := l.confirmed || decide (s.Unreported l.tag) }) ∨
        ∃ g ∈ s.tracker.pans, g.program ≠ none ∧
          e =
            { tag := g.tag
              footprint := g.coils
              program := g.program
              grace := 8
              wasHome := g.home
              cause := if ∃ f ∈ t.tracker.pans, ∃ i ∈ g.coils, i ∈ f.coils then .merged else .lifted
              confirmed := decide (s.Unreported g.tag) }
  released :
    (s.tracker.pans.map fun g => g.tag).Nodup → s.tracker.lifted.length + s.tracker.pans.length ≤ 4 →
      ∀ g ∈ s.tracker.pans, g.program ≠ none → (∀ f ∈ t.tracker.pans, f.tag ≠ g.tag) →
        (∀ e ∈ s.link.peers, e.report.tag ≠ g.tag) → (∀ l ∈ s.tracker.lifted, l.tag ≠ g.tag) →
        ∃ e ∈ t.tracker.lifted, e.tag = g.tag ∧ e.confirmed = true
  sent : s.sup.state ≠ .silent → ∃ requests, s.Requested t requests ∧ t.link = s.updateHanded t requests before

/-! ### The steps of the tracking update that tag a component -/

/-- R29: step 3 takes a component `c` to `d`. -/
def Component.EdgeTagged (c d : Component) (position : Position) (peers : List PeerEntry) : Prop :=
  (c.tag ≠ none ∨ (∀ e ∈ peers, ¬ Faces position c.coils e) → d = c) ∧
    (c.tag = none → (∃ e ∈ peers, Faces position c.coils e) →
      ∃ e ∈ peers, Faces position c.coils e ∧ d = { c with tag := some e.report.tag, origin := .carried } ∧
        ∀ x ∈ peers, Faces position c.coils x →
          (x.report.published ≠ none → e.report.published ≠ none) ∧
            ((x.report.published = none ↔ e.report.published = none) → e.report.tag.code ≤ x.report.tag.code))

/-- R30: step 4 takes the update from `t` to `u` at a component `c`. -/
def Tagging.ResumedTo (t u : Tagging) (c : Component) : Prop :=
  let shared := fun (e : LiftedEntry) => (e.footprint.filter fun i => decide (i ∈ c.coils)).length
  (c.tag ≠ none ∨ (∀ e ∈ t.lifted, shared e = 0) → u = { t with comps := t.comps ++ [c] }) ∧
    (c.tag = none → (∃ e ∈ t.lifted, 0 < shared e) →
      ∃ e ∈ t.lifted, 0 < shared e ∧
        (∀ x ∈ t.lifted,
          shared x < shared e ∨ shared x = shared e ∧ (x.grace < e.grace ∨ x.grace = e.grace ∧ e.tag.code ≤ x.tag.code)) ∧
        u =
          { t with
            comps := t.comps ++ [{ c with tag := some e.tag, origin := .resumed, program := e.program }]
            lifted := t.lifted.filter fun x => decide (x.tag ≠ e.tag)
            requests := t.requests ++ if e.confirmed = true ∧ e.wasHome = true then [(e.tag, .returned)] else [] })

/-- R22: the serial after another; 4095 is followed by 1. -/
def serialAfter (s : Fin 4096) : Fin 4096 := if s.val = 4095 then 1 else s + 1

/-- R22, R31: step 5 takes the update from `t` to `u` at a component `c`; `rest` are the components after it. Where at most eleven tags
are held, the new tag has the first serial from the counter on whose tag none of them is. -/
def Tagging.NewTagTo (t u : Tagging) (position : Position) (previous : List Fragment) (rest : List Component) (c : Component) : Prop :=
  let tagOf := fun (n : Nat) => ({ creator := position, serial := serialAfter^[n] t.serial } : Tag)
  let held := fun (x : Tag) =>
    (∃ f ∈ previous, f.tag = x) ∨ (∃ d ∈ t.comps ++ rest, d.tag = some x) ∨ ∃ e ∈ t.lifted, e.tag = x
  (c.tag ≠ none → u = { t with comps := t.comps ++ [c] }) ∧
    (c.tag = none → previous.length + ((t.comps ++ rest).filterMap fun d => d.tag).length + t.lifted.length ≤ 11 →
      ∃ n ≤ 11, ¬ held (tagOf n) ∧ (∀ m < n, held (tagOf m)) ∧
        u =
          { t with
            comps :=
              t.comps ++
                [{ c with
                    tag := some (tagOf n), origin := .new, program := none, home := false, contact := false, panContact := false }]
            serial := serialAfter (tagOf n).serial
            requests := t.requests ++ [(tagOf n, .appeared)] })

/-- Table 2-4 and R33: the decision of step 6 takes a component `c` of tag `own` to `d`; `touched` are the peer entries it touches. -/
structure Component.SeniorTo (c d : Component) (own : Tag) (touched : PeerEntry → Prop) : Prop where
  keeps : c.program ≠ none → d.tag = some own ∧ d.origin = c.origin
  adopts :
    c.program = none → (∃ e, touched e ∧ e.report.published ≠ none) →
      d.origin = .carried ∧
        ∃ e, touched e ∧ e.report.published ≠ none ∧ d.tag = some e.report.tag ∧
          ∀ x, touched x → x.report.published ≠ none → e.report.tag.code ≤ x.report.tag.code
  lowest :
    c.program = none → (∀ e, touched e → e.report.published = none) →
      ∃ tag : Tag, d.tag = some tag ∧ (tag = own ∨ ∃ e, touched e ∧ e.report.tag = tag) ∧ tag.code ≤ own.code ∧
        (∀ e, touched e → tag.code ≤ e.report.tag.code) ∧ d.origin = if tag = own then c.origin else .carried
  contact : d.contact = true ↔ c.program ≠ none ∧ ∃ e, touched e ∧ e.report.published ≠ none
  rest : d.coils = c.coils ∧ d.area = c.area ∧ d.program = c.program

/-- R34: the order in which the origins of the parts of a fragment go before each other. -/
def originOrder : List Origin := [.tracked, .resumed, .carried, .new]

/-- R34: step 7 makes the fragment `f` of the components of its tag in `comps`, which stand in the order of their lowest coils. -/
structure Fragment.JoinedFrom (f : Fragment) (comps : List Component) : Prop where
  coils : ∀ i, i ∈ f.coils ↔ ∃ c ∈ comps, c.tag = some f.tag ∧ i ∈ c.coils
  contact : f.contact = true ↔ ∃ c ∈ comps, c.tag = some f.tag ∧ c.contact = true
  lead :
    ∃ before c after, comps = before ++ c :: after ∧ c.tag = some f.tag ∧ f.origin = c.origin ∧ f.program = c.program ∧
      (∀ x ∈ before, x.tag = some f.tag → originOrder.idxOf c.origin < originOrder.idxOf x.origin) ∧
      ∀ x ∈ after, x.tag = some f.tag → originOrder.idxOf c.origin ≤ originOrder.idxOf x.origin

/-- The tables stay within their sizes and keep their keys apart (R23, R24, R46, R141, R142, R147). -/
structure State.TablesSound (s : State) : Prop where
  pans_size : s.tracker.pans.length ≤ Config.panTableSize
  lifted_size : s.tracker.lifted.length ≤ Config.liftedListSize
  cache_size : s.cache.length ≤ Config.cacheSize
  queue_size : s.link.queue.length ≤ Config.queueSize
  peers_size : s.link.peers.length ≤ Config.peerTableSize
  pan_tags : (s.tracker.pans.map fun f => f.tag).Nodup
  lifted_tags : (s.tracker.lifted.map fun e => e.tag).Nodup
  apart : ∀ f ∈ s.tracker.pans, ∀ e ∈ s.tracker.lifted, f.tag ≠ e.tag
  cache_tags : (s.cache.map fun e => e.tag).Nodup
  queue_keys : (s.link.queue.map fun e => e.key).Nodup
  one_contends : (s.link.queue.filter fun e => e.contending).length ≤ 1
  peer_keys : (s.link.peers.map fun e => (e.source, e.report.tag)).Nodup
  peer_areas : ∀ e ∈ s.link.peers, 0 < e.report.area
  peer_ages : ∀ e ∈ s.link.peers, e.age ≤ 3
  peer_foreign : ∀ e ∈ s.link.peers, e.source ≠ s.sup.position
  held_empty : s.sup.held = true → s.link.peers = []

/-- A step of a cached setting, of index `k`, as the clamps of R48 leave it (Table 3-2). -/
structure Step.Clamped (k : Nat) (x : Step) : Prop where
  target : x.target ≤ 740
  duration : x.duration ≤ 5999
  loop : ∀ l, x.loop = some l → l.back < k ∧ 1 ≤ l.count ∧ l.count ≤ 15

/-- A program state within its cached setting (R53, Table 3-3). -/
structure Program.Within (e : CacheEntry) (p : Program) : Prop where
  revision : p.revision = e.revision
  step : p.step < e.steps.length
  remaining : p.remaining ≤ (stepAt e.steps p.step).duration
  loop : ∀ n, p.loop = some n → n ≤ 15
  done : p.done = true → p.step = e.steps.length - 1 ∧ p.remaining = 0 ∧ p.loop = none

/-- R53: a program state exists only while the cache holds an entry of its tag, and lies within that entry. -/
structure State.ProgramsSound (s : State) : Prop where
  steps_count : ∀ e ∈ s.cache, 1 ≤ e.steps.length ∧ e.steps.length ≤ 6
  steps_clamped : ∀ e ∈ s.cache, ∀ k, k < e.steps.length → (stepAt e.steps k).Clamped k
  pans : ∀ f ∈ s.tracker.pans, ∀ p, f.program = some p → ∃ e, cacheEntry s.cache f.tag = some e ∧ p.Within e
  lifted : ∀ f ∈ s.tracker.lifted, ∀ p, f.program = some p → ∃ e, cacheEntry s.cache f.tag = some e ∧ p.Within e
  peers : ∀ e ∈ s.link.peers, ∀ q, e.report.published = some q → ∀ n, q.program.loop = some n → n ≤ 15

/-- 41..140, the range of every frequency and floor. -/
abbrev inBand (f : Nat) : Prop := Config.lowestFrequency ≤ f ∧ f ≤ Config.highestFrequency

/-- R97, R98, R112: the frequency lies in 41..140 and at or above the floor of every coil with a density above 0, and every figure it
is taken from lies in 41..140; before setup is good the lock is idle at 41, which is what a status in SETUP_FAULT reports (R157). -/
structure State.FrequencySound (s : State) : Prop where
  frequency : inBand s.drive.frequency
  handed : inBand s.drive.handedFrequency
  lock_floor : inBand s.drive.lockFloor
  chain_floor : inBand s.drive.chainFloor
  floors : ∀ i, inBand (s.coils.get i).floor
  heated : ∀ i, 0 < s.drive.density.get i → (s.coils.get i).floor ≤ s.drive.frequency
  start_frequency : s.setupGood = true → inBand s.setup.startFrequency
  setup_floors : ∀ i, (s.coils.get i).fitted = true → inBand (s.setup.coils.get i).floor
  heard : ∀ q st, (s.link.roster.get q).content = some st → inBand st.frequency ∧ inBand st.chainFloor
  idle :
    s.setupGood = false →
      s.drive.frequency = 41 ∧ s.drive.handedFrequency = 41 ∧ s.drive.role = .free ∧ s.drive.lockFloor = 41

end Sys2Proof.Machine
end

