-- ==== Sys2Proof/Certificates/Slice0/Obligations.lean ====
section
/-! DEFINITION. The statements for the provers, family by family in the order of the command table; the statements of the
formats as a whole and the invariants (tier 3) stand last. A choice of the model's that a statement rests on is named with its log entry. -/

open Sys2Proof Sys2Proof.Machine

/-! ### The step and the commands as a whole -/

/-- O1. The block takes the command at the front of its queue; with none waiting it idles (log entry 1). -/
def Obligations.StepTakesFrontCommand : Prop :=
  (∀ (c : Instr) (rest : List Instr) (s : State),
    step { s with pending := c :: rest } = exec c { s with pending := rest }) ∧
  (∀ s : State, s.pending = [] → step s = .next s)

/-- O2. Every command completes in every state, and none touches the queue of waiting commands. That none faults or is refused, on
ill-formed operands too, is the model's (log entry 6), and so is that the queue of waiting commands stays (log entry 1). -/
def Obligations.EveryCommandCompletes : Prop :=
  ∀ (c : Instr) (s : State), ∃ t, exec c s = .next t ∧ t.pending = s.pending

/-- O3. 11.1: while the device is held in reset only a reset cause, the end of reset and the level of the stop line's pin
(log entry 2) reach it. -/
def Obligations.HeldDeviceIgnoresCommands : Prop :=
  ∀ (c : Instr) (s : State), s.sup.held = true →
    (∀ x, c ≠ .reset x) → (∀ x, c ≠ .endOfReset x) → c ≠ .stopLineAssertion → c ≠ .stopLineRelease →
    exec c s = .next s

/-! ### Start-up -/

/-- O4. R172: a cause begins a reset, which puts every block at its reset values; one that arrives during a reset only adds to
what that reset has seen. The rule takes the cause at the end of reset; that RESET itself sets it, and sets it anew at each cause while
the device is held, is the model's (log entry 19). So are the reset values that no rule gives (log entry 7) and what is kept across a
reset: the pin's level (log entry 2), the counter of free values (log entry 5) and the queue of commands (log entry 1). -/
def Obligations.ResetBeginsOrExtends : Prop :=
  ∀ (cause : ResetCause) (s : State),
    (s.sup.held = false →
      exec (.reset cause) s =
        .next
          { State.reset with
            sup :=
              { Supervisor.reset with
                resetCause := cause
                sawPowerOn := decide (cause = .powerOn)
                sawDip := decide (cause = .supplyDip)
                stopExternal := s.sup.stopExternal }
            freeUsed := s.freeUsed
            pending := s.pending }) ∧
    (s.sup.held = true →
      exec (.reset cause) s =
        .next
          { s with
            sup :=
              { s.sup with
                sawPowerOn := s.sup.sawPowerOn || decide (cause = .powerOn)
                sawDip := s.sup.sawDip || decide (cause = .supplyDip)
                resetCause :=
                  if s.sup.sawPowerOn = true ∨ cause = .powerOn then .powerOn
                  else if s.sup.sawDip = true ∨ cause = .supplyDip then .supplyDip
                  else .resetPin } })

/-- O5. R162, R114: every reset cause gives the values of Table 10-1 and Table 7-1. -/
def Obligations.ResetValuesOfSupervisorAndSense : Prop :=
  ∀ (cause : ResetCause) (s : State), s.sup.held = false →
    ∃ t, exec (.reset cause) s = .next t ∧
      t.sup.state = .loading ∧ t.sup.lastPanel = .standby ∧ t.sup.absence = 0 ∧ t.sup.overvoltageDrive = false ∧
      t.sup.clearRun = 0 ∧ t.sup.stopCause = .none ∧ t.sup.resetCause = cause ∧ t.sup.faultCode = 0 ∧
      (∀ i, t.sense.acc.get i = { inFlight := false, sum := 0, count := 0 }) ∧
      (∀ i, t.sense.window.get i = { sum := 0, number := 0 }) ∧
      (∀ i, t.sense.power.get i = none) ∧ t.sense.bus = 0 ∧ t.sense.busRun = 0 ∧ t.sense.busHigh = false ∧
      t.sense.sinkTemp = none ∧ t.sense.sinkFault = false ∧ t.sense.sinkRecovery = 0 ∧ t.sense.sinkHot = false

/-- O6. R172 to R174: at the end of reset the cause is recorded by its precedence, the straps give the position, and the reading of the
setup memory begins: SCS goes low and the bytes 03h, 00h, 00h are sent on SMO. -/
def Obligations.EndOfResetRecordsCauseAndStraps : Prop :=
  ∀ (straps : BitVec 3) (s : State), s.sup.held = true →
    ∃ t, exec (.endOfReset straps) s = .next t ∧ t.scsHigh = false ∧
      t.smoBits = [false, false, false, false, false, false, true, true] ++ List.replicate 16 false ∧
      t =
        { s with
          sup :=
            { s.sup with
              resetCause :=
                if s.sup.sawPowerOn = true then .powerOn
                else if s.sup.sawDip = true then .supplyDip
                else .resetPin
              position := ⟨straps.toNat, straps.isLt⟩
              held := false
              reading := true } }

/-- O7. R160, R175, Tables 9-8 and 9-9: the fault code is the lowest number of a failing field, and 0 exactly when no field fails; the
fields that fail are those outside their ranges, of the fitted coils only, and the byte sum. A byte beyond the image's end reads FFh (log
entry 22). -/
def Obligations.SetupCodeIsLowestFailingField : Prop :=
  ∀ image : List Byte,
    (setupFaultCode image = 0 ↔ ∀ f ∈ judgedFields image, f.2 = true) ∧
    (setupFaultCode image ≠ 0 →
      (setupFaultCode image, false) ∈ judgedFields image ∧
        ∀ n, (n, false) ∈ judgedFields image → setupFaultCode image ≤ n) ∧
    (let b := fun (a : Nat) => (image.getD a 255#8).toNat
    let w := fun (a : Nat) => b a * 256 + b (a + 1)
    let high := fun (a : Nat) => b a * 16 + b (a + 1) / 16
    let low := fun (a : Nat) => b (a + 1) % 16 * 256 + b (a + 2)
    ∀ n,
      (n, false) ∈ judgedFields image ↔
        n = 1 ∧ b 0 ≠ 1 ∨ n = 2 ∧ 1 < b 1 ∨ n = 3 ∧ 740 < w 2 ∨ n = 4 ∧ 2400 < w 4 ∨ n = 5 ∧ (b 6 < 41 ∨ 140 < b 6) ∨
          n = 8 ∧ 3 < b 9 ∨ n = 9 ∧ 3 < b 10 ∨ n = 10 ∧ 3 < b 11 ∨ n = 11 ∧ 140 < b 12 ∨
          n = 12 ∧ (b 13 < b 12 + 10 ∨ 150 < b 13) ∨ n = 13 ∧ (w 14 < 1 ∨ 1022 < w 14) ∨ n = 14 ∧ w 14 ≤ w 16 ∨
          (∃ (k : CoilIx) (a : Nat), a = 18 + 13 * k.val ∧ 128 ≤ b a ∧
            (n = 16 + 10 * k.val ∧ b a % 32 < 8 ∨ n = 17 + 10 * k.val ∧ b a % 32 < b (a + 1) + 4 ∨
              n = 18 + 10 * k.val ∧ (w (a + 2) < 200 ∨ 2000 < w (a + 2)) ∨
              n = 19 + 10 * k.val ∧ (b (a + 4) < 41 ∨ 140 < b (a + 4)) ∨ n = 20 + 10 * k.val ∧ 300 < high (a + 5) ∨
              n = 21 + 10 * k.val ∧ (low (a + 5) < 1 ∨ 300 < low (a + 5)) ∨
              n = 22 + 10 * k.val ∧ (high (a + 8) < 10 ∨ 290 < high (a + 8)) ∨
              n = 23 + 10 * k.val ∧ (low (a + 8) < high (a + 8) + 10 ∨ 300 < low (a + 8)) ∨
              n = 24 + 10 * k.val ∧ (w (a + 11) < 1 ∨ 2047 < w (a + 11)))) ∨
          n = 96 ∧ ((List.range 128).map b).sum % 256 ≠ 0)

/-- O8. R10, R176: a good image is loaded, a bad one loads nothing and takes the module to SETUP_FAULT with its code. An image of
another length than 128 bytes is the model's: missing bytes read FFh, further ones are cut (log entry 22). -/
def Obligations.SetupReadEndJudgesTheImage : Prop :=
  ∀ (image : List Byte) (s : State), s.sup.held = false → s.sup.reading = true →
    (setupFaultCode image = 0 →
      exec (.setupReadEnd image) s =
        .next
          { s with
            image := heldImage image
            sup := { s.sup with reading := false }
            setupGood := true
            setup := readSetup image
            coils :=
              s.coils.mapIx fun i (c : Coil) =>
                { c with
                  fitted := ((readSetup image).coils.get i).fitted
                  floor :=
                    if ((readSetup image).coils.get i).fitted then ((readSetup image).coils.get i).floor else c.floor }
            drive := { s.drive with frequency := (readSetup image).startFrequency } }) ∧
    (setupFaultCode image ≠ 0 →
      exec (.setupReadEnd image) s =
        .next
          { s with
            image := heldImage image
            sup := { s.sup with reading := false, state := .setupFault, faultCode := setupFaultCode image } })

/-- O9. R150, R163, R177: a module with a good setup and a known mains class leaves LOADING for QUIET, or for STOPPED when the line is
sensed asserted, with the last panel state STANDBY and the absence count 0. How many slots the cut of either entry counts is the model's
reading of R96 (log entry 12). -/
def Obligations.LoadingExitEntersQuietOrStopped : Prop :=
  ∀ s : State, s.sup.held = false → s.sup.state = .loading → s.setupGood = true → s.timebase.mainsClass ≠ .unknown →
    ∃ t, exec .loadingExit s = .next t ∧
      (s.sup.stopExternal = false → s.sup.overvoltageDrive = false →
        s.QuietFrom t ∧ t.sup = { s.sup with state := .quiet, lastPanel := .standby, absence := 0, stopCause := .none }) ∧
      (s.sup.stopExternal = true → s.sup.overvoltageDrive = false →
        s.StoppedFrom t ∧
          t.sup = { s.sup with state := .stopped, lastPanel := .standby, absence := 0, stopCause := .external })

/-! ### Timebase -/

/-- O10. R85: a crossing while the mains class is unknown starts, is noise to, counts in, restarts or completes the class
measurement; the completing crossing is the first boundary. -/
def Obligations.CrossingMeasuresTheClass : Prop :=
  ∀ (time : Nat) (s : State), s.sup.held = false → s.timebase.mainsClass = .unknown →
    (s.timebase.measCount = 0 →
      exec (.zeroCrossing time) s =
        .next { s with timebase := { s.timebase with measCount := 1, measFirst := time, measPrev := time } }) ∧
    (0 < s.timebase.measCount → time < s.timebase.measPrev + 5000 → exec (.zeroCrossing time) s = .next s) ∧
    (0 < s.timebase.measCount → s.timebase.measCount < 7 → s.timebase.measPrev + 5000 ≤ time →
      exec (.zeroCrossing time) s =
        .next { s with timebase := { s.timebase with measCount := s.timebase.measCount + 1, measPrev := time } }) ∧
    (s.timebase.measCount = 7 → s.timebase.measPrev + 5000 ≤ time →
      ((time - s.timebase.measFirst) / 7 < 7500 ∨ 11000 < (time - s.timebase.measFirst) / 7) →
      exec (.zeroCrossing time) s =
        .next { s with timebase := { s.timebase with measCount := 1, measFirst := time, measPrev := time } }) ∧
    (s.timebase.measCount = 7 → s.timebase.measPrev + 5000 ≤ time →
      7500 ≤ (time - s.timebase.measFirst) / 7 → (time - s.timebase.measFirst) / 7 ≤ 11000 →
      ∃ t, exec (.zeroCrossing time) s = .next t ∧
        t.timebase =
          { s.timebase with
            mainsClass := if 9000 ≤ (time - s.timebase.measFirst) / 7 then .hz50 else .hz60
            measCount := 8
            measPrev := time
            period := some ((time - s.timebase.measFirst) / 7)
            reference := some time
            halfCycle := 0
            tickCount := 0
            windowStartRaised := true
            allocationRaised := false
            secondTickRaised := false })

/-- O11. R86, R88 to R92, R99, R117, R118, R122, R124: once the class is known a crossing outside its span is noise; one inside it is
a half-cycle boundary, which moves the reference, the period, the runs and the counters, turns every gate off, closes and judges the
half-cycle before it and starts the drive of the next slot. The last two are said of a state in which no earlier event waits, which
would be taken first (log entry 3). That the cut of a LIFT counts the on slots after the closed one is the model's reading of R96 (log
entry 12), and that a lifted coil's next half-cycle is never opened is its reading of R122 (log entry 30). -/
def Obligations.CrossingInSpanIsABoundary : Prop :=
  ∀ (time r p : Nat) (s : State), s.sup.held = false → s.timebase.mainsClass ≠ .unknown →
    s.timebase.reference = some r → s.timebase.period = some p →
    ((time < r + p - p / 10 ∨ r + p + p / 10 < time) → exec (.zeroCrossing time) s = .next s) ∧
    (r + p - p / 10 ≤ time → time ≤ r + p + p / 10 →
      ∃ t, exec (.zeroCrossing time) s = .next t ∧
        t.timebase.mainsClass = s.timebase.mainsClass ∧
        t.timebase.reference = some time ∧
        t.timebase.period =
          some
            (if s.timebase.mainsClass = .hz60 then max 7500 (min 8999 (time - r)) else max 9000 (min 11000 (time - r))) ∧
        t.timebase.syntheticRun = 0 ∧
        t.timebase.acceptedRun = min 4 (s.timebase.acceptedRun + 1) ∧
        t.timebase.mainsLost = (s.timebase.mainsLost && decide (s.timebase.acceptedRun + 1 < 4)) ∧
        t.timebase.halfCycle = s.timebase.halfCycle + 1 ∧
        t.timebase.windowStartRaised = decide (s.timebase.halfCycle = 15) ∧
        t.timebase.allocationRaised = decide (s.timebase.halfCycle = 0) ∧
        t.timebase.tickCount =
          (if (if s.timebase.mainsClass = .hz60 then 120 else 100) ≤ s.timebase.tickCount + 1 then 0
            else s.timebase.tickCount + 1) ∧
        t.timebase.secondTickRaised =
          decide ((if s.timebase.mainsClass = .hz60 then 120 else 100) ≤ s.timebase.tickCount + 1) ∧
        t.timebase =
          { t.timebase with
            measCount := s.timebase.measCount, measFirst := s.timebase.measFirst, measPrev := s.timebase.measPrev } ∧
        t.drive.counter = 0 ∧ t.drive.highGate = Eight.fill false ∧ t.drive.lowGate = Eight.fill false ∧
        (s.Settled → s.BoundaryFrom t))

/-- O12. R87 to R92, R99, R102, R117, R118, R122, R124: the end of a span without a crossing is a boundary too: it moves the counters
and raises their events, turns every gate off, and closes and starts half-cycles as a crossing does; the reference keeps the phase it had,
and the eighth in a row sets MAINS_LOST and then cuts all drive. What it closes and starts is said of a state in which no earlier event
waits, which would be taken first (log entry 3). That the cut of a LIFT counts the on slots after the closed one is the
model's reading of R96 (log entry 12), and that a lifted coil's next half-cycle is never opened is its reading of R122 (log entry 30).
-/
def Obligations.SyntheticBoundaryKeepsThePhase : Prop :=
  ∀ (r p : Nat) (s : State), s.sup.held = false → s.timebase.mainsClass ≠ .unknown →
    s.timebase.reference = some r → s.timebase.period = some p →
    ∃ t, exec .syntheticBoundary s = .next t ∧
      t.timebase.mainsClass = s.timebase.mainsClass ∧
      t.timebase.reference = some (r + p) ∧ t.timebase.period = some p ∧
      t.timebase.syntheticRun = min 8 (s.timebase.syntheticRun + 1) ∧ t.timebase.acceptedRun = 0 ∧
      t.timebase.halfCycle = s.timebase.halfCycle + 1 ∧
      t.timebase.windowStartRaised = decide (s.timebase.halfCycle = 15) ∧
      t.timebase.allocationRaised = decide (s.timebase.halfCycle = 0) ∧
      t.timebase.tickCount =
        (if (if s.timebase.mainsClass = .hz60 then 120 else 100) ≤ s.timebase.tickCount + 1 then 0
          else s.timebase.tickCount + 1) ∧
      t.timebase.secondTickRaised =
        decide ((if s.timebase.mainsClass = .hz60 then 120 else 100) ≤ s.timebase.tickCount + 1) ∧
      t.timebase.mainsLost = (s.timebase.mainsLost || decide (7 ≤ s.timebase.syntheticRun)) ∧
      t.timebase =
        { t.timebase with
          measCount := s.timebase.measCount, measFirst := s.timebase.measFirst, measPrev := s.timebase.measPrev } ∧
      t.drive.counter = 0 ∧ t.drive.highGate = Eight.fill false ∧ t.drive.lowGate = Eight.fill false ∧
      (s.timebase.mainsLost = false → 7 ≤ s.timebase.syntheticRun →
        t.DriveOff ∧
          (s.Settled →
            ∃ u, s.BoundaryFrom u ∧ u.AllCut t ∧ u.timebase = { t.timebase with mainsLost := false } ∧
              t = { u with timebase := t.timebase, coils := t.coils, drive := t.drive, sense := t.sense })) ∧
      (s.timebase.mainsLost = true ∨ s.timebase.syntheticRun < 7 → s.Settled → s.BoundaryFrom t)

/-- O13. R88, R102, R145: the onsets of MAINS_LOST and LINK_BLOCKED, each as its own command at the last count (log entry 4),
cut all drive and change nothing else; the fourth accepted crossing clears MAINS_LOST and drives nothing. How many slots a cut
counts is the model's reading of R96 (log entry 12). -/
def Obligations.InhibitOnsetsCutAllDrive : Prop :=
  ∀ s : State, s.sup.held = false →
    (7 ≤ s.timebase.syntheticRun → s.timebase.mainsLost = false →
      ∃ t, exec .mainsLostSet s = .next t ∧ s.AllCut t ∧
        t =
          { s with
            timebase := { s.timebase with syntheticRun := 8, mainsLost := true }
            coils := t.coils, drive := t.drive, sense := t.sense }) ∧
    (s.link.queue ≠ [] → s.link.wonInWindow = false → s.link.blockedCount = 4 →
      ∃ t, exec .linkBlockedSet s = .next t ∧ s.AllCut t ∧
        t =
          { s with
            link := { s.link with blockedCount := 5, linkBlocked := true }
            coils := t.coils, drive := t.drive, sense := t.sense }) ∧
    (3 ≤ s.timebase.acceptedRun → s.timebase.mainsLost = true →
      exec .mainsLostClear s = .next { s with timebase := { s.timebase with acceptedRun := 4, mainsLost := false } })

/-! ### Window start -/

/-- O14. R1, R2, R42, R45, R89, R102, R119, R121, R125, R145, R146, R148: a raised window start forms the measured powers, lets the fault
timers fall, ages the roster and the peer fragment table with the test of R42, counts a window without a win and at the fifth sets
LINK_BLOCKED, which cuts all drive, begins the sweep in RUN with pair 0, or with the first pair that has a fitted coil, the pairs before
it being complete at their own start, and reports the frozen fragments in STOPPED; nothing else changes, the setting cache, the lock role
and the frequency among it. Where no coil is fitted the sweep is complete at once and the tracking update runs. That a latched coil keeps
its retries in a clean window is the model's reading (log entry 14), and so is how many slots the cut counts (log entry 12); that the peer
fragments age before the queue is looked at is its order (log entry 9), and so is the order of the frames of several fragments or entries
(log entry 34). -/
def Obligations.WindowStartAgesAndMeasures : Prop :=
  ∀ s : State, s.sup.held = false → s.timebase.windowStartRaised = true →
    ∃ t, exec .windowStart s = .next t ∧
      t.timebase = { s.timebase with windowStartRaised := false } ∧
      (∀ i,
        t.sense.power.get i =
          if (s.sense.window.get i).number = 0 then s.sense.power.get i
          else some ((2 * (s.sense.window.get i).sum + (s.sense.window.get i).number) / (2 * (s.sense.window.get i).number))) ∧
      (∀ i, t.sense.window.get i = { sum := 0, number := 0 }) ∧
      t.sense.converting =
        (s.setupGood && !decide (s.sup.state = .loading) && !decide (s.sup.state = .setupFault)) ∧
      t.sense =
        { s.sense with
          power := t.sense.power, window := t.sense.window, acc := t.sense.acc, converting := t.sense.converting } ∧
      (∀ i, (t.coils.get i).faultTimer = (s.coils.get i).faultTimer - 1) ∧
      (∀ i,
        (t.coils.get i).faultRetries =
          if (s.coils.get i).drivenInWindow = true ∧ (s.coils.get i).overcurrentInWindow = false ∧
              (s.coils.get i).faultRetries ≠ 3 then 0
          else (s.coils.get i).faultRetries) ∧
      (∀ i,
        t.coils.get i =
          { s.coils.get i with
            faultTimer := (t.coils.get i).faultTimer
            faultRetries := (t.coils.get i).faultRetries
            drivenInWindow := false
            overcurrentInWindow := false
            heating := (t.coils.get i).heating }) ∧
      (∀ q,
        (t.link.roster.get q).content = (s.link.roster.get q).content ∧
          (t.link.roster.get q).age =
            if (s.link.roster.get q).content = none then (s.link.roster.get q).age
            else min 255 ((s.link.roster.get q).age + 1)) ∧
      t.link.peers = (s.link.peers.filter fun e => e.age < 3).map (fun e => { e with age := e.age + 1 }) ∧
      t.link.wonInWindow = false ∧
      t.link =
        { s.link with
          queue := t.link.queue
          dropped := t.link.dropped
          roster := t.link.roster
          peers := t.link.peers
          blockedCount := t.link.blockedCount
          linkBlocked := t.link.linkBlocked
          wonInWindow := false } ∧
      (s.agedHanded.queue = [] → t.link.blockedCount = 0 ∧ t.link.linkBlocked = false) ∧
      (s.agedHanded.queue ≠ [] → s.link.wonInWindow = true →
        t.link.blockedCount = s.link.blockedCount ∧ t.link.linkBlocked = s.link.linkBlocked) ∧
      (s.agedHanded.queue ≠ [] → s.link.wonInWindow = false → s.link.blockedCount ≤ 3 →
        t.link.blockedCount = s.link.blockedCount + 1 ∧ t.link.linkBlocked = s.link.linkBlocked) ∧
      (s.agedHanded.queue ≠ [] → s.link.wonInWindow = false → 4 ≤ s.link.blockedCount → s.link.linkBlocked = true →
        t.link.blockedCount = s.link.blockedCount ∧ t.link.linkBlocked = true) ∧
      (s.agedHanded.queue ≠ [] → s.link.wonInWindow = false → 4 ≤ s.link.blockedCount → s.link.linkBlocked = false →
        t.link.blockedCount = 5 ∧ t.link.linkBlocked = true ∧ t.DriveOff ∧
          t.drive =
            { s.drive with
              density := Eight.fill 0
              driven := Eight.fill false
              highGate := Eight.fill false
              lowGate := Eight.fill false
              cutLoss :=
                min 4095 (s.drive.cutLoss + (Eight.ofFn ({ s with sense := { s.sense with power := t.sense.power } } : State).cutLossOf).sum) }) ∧
      (t.link.linkBlocked = false ∨ s.link.linkBlocked = true →
        (s.sup.state ≠ .run ∨ ∃ i, (s.coils.get i).fitted = true) →
        t.drive = s.drive ∧ t.sense.acc = s.sense.acc ∧ ∀ i, (t.coils.get i).heating = (s.coils.get i).heating) ∧
      (t.link.linkBlocked = false ∨ s.link.linkBlocked = true →
        s.sup.state = .run → (∀ i, (s.coils.get i).fitted = false) → s.CutOf t (s.untargeted t) (fun _ => false)) ∧
      (s.sup.state = .run →
        (∀ q first second, (q, first, second) ∈ [((0 : Fin 4), (0 : CoilIx), (6 : CoilIx)), (1, 1, 7), (2, 2, 4), (3, 3, 5)] →
          (s.coils.get first).fitted = true ∨ (s.coils.get second).fitted = true →
          (∀ r < q, (s.coils.get (firstCoil r)).fitted = false ∧ (s.coils.get (secondCoil r)).fitted = false) →
          t.probe.sweep = some q ∧ t.probe.pulseTicks = 16 * s.setup.probeWidth ∧
            t.probe.unit0 = { Capture.off with phase := if (s.coils.get first).fitted = true then .pulse else .ended } ∧
            t.probe.unit1 = { Capture.off with phase := if (s.coils.get second).fitted = true then .pulse else .ended } ∧
            (∀ i, t.pulseOn i = decide ((i = first ∨ i = second) ∧ (s.coils.get i).fitted = true)) ∧
            t.tracker =
              { s.tracker with
                lifted := s.tracker.lifted.map fun e => if e.tag ∈ s.closedByAge then { e with confirmed := true } else e } ∧
            t.link.queue = s.agedHanded.queue ∧ t.link.dropped = s.agedHanded.dropped) ∧
          ((∀ i, (s.coils.get i).fitted = false) →
            t.probe.sweep = none ∧ t.tracker.pans = [] ∧
              ({ s with
                  tracker :=
                    { s.tracker with
                      lifted :=
                        s.tracker.lifted.map fun e => if e.tag ∈ s.closedByAge then { e with confirmed := true } else e }
                  link := { s.link with peers := t.link.peers } } : State).TrackedFrom t
                { t.link with queue := s.agedHanded.queue, dropped := s.agedHanded.dropped })) ∧
      (s.sup.state ≠ .run → t.probe = s.probe ∧ t.tracker = s.tracker) ∧
      (s.sup.state = .stopped →
        ∃ l : Link,
          l =
            s.tracker.pans.foldl
              (fun (l : Link) f =>
                l.hand (.fragment f.tag) s.setup.fragmentLevel
                  (encodeReport
                    { tag := f.tag, area := f.area, edge := f.edge, published := none, home := f.home, contact := f.contact }))
              s.link ∧
            t.link.queue = l.queue ∧ t.link.dropped = l.dropped) ∧
      (s.sup.state ≠ .run → s.sup.state ≠ .stopped → t.link.queue = s.link.queue ∧ t.link.dropped = s.link.dropped) ∧
      t =
        { s with
          timebase := t.timebase, coils := t.coils, tracker := t.tracker, drive := t.drive, sense := t.sense, link := t.link
          probe := t.probe }

/-- O15. R9, R121, Table 1-3: a fault timer in its last window, with retries below 3, ends the coil's fault and touches nothing else
(log entry 4); the coil's state then is the first row of Table 1-3 that matches its record. -/
def Obligations.FaultEndFreesTheCoil : Prop :=
  ∀ (i : CoilIx) (s : State), s.sup.held = false → (s.coils.get i).faultTimer = 1 → (s.coils.get i).faultRetries < 3 →
    ∃ t, exec (.faultEnd i) s = .next t ∧ t = { s with coils := t.coils } ∧
      (∀ j, j ≠ i → t.coils.get j = s.coils.get j) ∧
      t.coils.get i = { s.coils.get i with faultTimer := 0 } ∧
      coilState (t.coils.get i) ≠ .faulted ∧
      ∀ c : Coil,
        coilState c =
          if c.fitted = false then .idle
          else if c.presence = .nonferrous then .blocked
          else if c.presence = .absent then .idle
          else if 0 < c.faultTimer ∨ c.faultRetries = 3 then .faulted
          else if c.overheat = true then .hot
          else if c.held = true then .held
          else if c.heating = true then .heating
          else .covered

/-- O16. R42, R148: a peer entry at age 3 is removed; in RUN, when no other report of its tag is left, the lifted entries of that
tag are confirmed, and each that was not confirmed hands the notice of its cause to the queue where this module was home, in the order of
the list (log entry 34). As a command of its own: log entry 4. -/
def Obligations.PeerAgeOutConfirmsLiftedEntries : Prop :=
  ∀ (q : Position) (t : Tag) (s : State), s.sup.held = false →
    (∃ e ∈ s.link.peers, e.source = q ∧ e.report.tag = t) →
    (∀ e ∈ s.link.peers, e.source = q → e.report.tag = t → e.age = 3) →
    ∃ u, exec (.peerFragmentAgeOut q t) s = .next u ∧
      u.link.peers = s.link.peers.filter (fun e => !(e.source = q ∧ e.report.tag = t)) ∧
      u.tracker.lifted =
        (if s.sup.state = .run ∧ ∀ e ∈ u.link.peers, e.report.tag = t → e.report.area = 0 then
          s.tracker.lifted.map fun e => if e.tag = t then { e with confirmed := true } else e
        else s.tracker.lifted) ∧
      u =
        { s with
          tracker := { s.tracker with lifted := u.tracker.lifted }
          link :=
            if s.sup.state = .run ∧ u.Unreported t then s.causesHanded t { s.link with peers := u.link.peers }
            else { s.link with peers := u.link.peers } }

/-- O17. R16, R125, R127, Tables 1-5, 7-4 and 7-5: the readings of a conversion in flight reach the records of the fitted coils and
the sink, and the drive of a coil that may no longer be driven is withdrawn (R101, R102); nothing else changes. That a reading
withdraws at once is the model's reading (log entry 18), and so is how many slots a cut counts (log entry 12). -/
def Obligations.TemperatureReadingsSetTheRecords : Prop :=
  ∀ (codes : Eight (BitVec 12)) (sink : BitVec 12) (s : State), s.sup.held = false → s.sense.converting = true →
    ∃ t, exec (.temperatureReadings codes sink) s = .next t ∧
      t = { s with coils := t.coils, drive := t.drive, sense := t.sense } ∧
      t.sense.converting = false ∧
      (∀ i,
        t.coils.get i =
          { s.coils.get i with
            temperature := (t.coils.get i).temperature
            sensorFault := (t.coils.get i).sensorFault
            recovery := (t.coils.get i).recovery
            overheat := (t.coils.get i).overheat
            heating := (t.coils.get i).heating }) ∧
      (∀ i, (s.coils.get i).fitted = false →
        (t.coils.get i).temperature = (s.coils.get i).temperature ∧
          (t.coils.get i).sensorFault = (s.coils.get i).sensorFault ∧
          (t.coils.get i).recovery = (s.coils.get i).recovery ∧ (t.coils.get i).overheat = (s.coils.get i).overheat) ∧
      (∀ i, (s.coils.get i).fitted = true → temperatureOf (codes.get i) = none →
        (t.coils.get i).temperature = (s.coils.get i).temperature ∧ (t.coils.get i).sensorFault = true ∧
          (t.coils.get i).recovery = 0 ∧ (t.coils.get i).overheat = true) ∧
      (∀ i x, (s.coils.get i).fitted = true → temperatureOf (codes.get i) = some x →
        (t.coils.get i).temperature = some x ∧
          (if (s.coils.get i).sensorFault = true ∧ (s.coils.get i).recovery = 0 then
            (t.coils.get i).sensorFault = true ∧ (t.coils.get i).recovery = 1 ∧
              (t.coils.get i).overheat = (s.coils.get i).overheat
          else if (s.coils.get i).sensorFault = true ∨ (s.coils.get i).temperature = none then
            (t.coils.get i).sensorFault = false ∧ (t.coils.get i).recovery = 0 ∧
              (t.coils.get i).overheat = decide ((s.setup.coils.get i).hardTemp ≤ x)
          else
            (t.coils.get i).sensorFault = false ∧ (t.coils.get i).recovery = 0 ∧
              (t.coils.get i).overheat =
                (decide ((s.setup.coils.get i).hardTemp ≤ x) ||
                  ((s.coils.get i).overheat && !decide (x + 10 ≤ (s.setup.coils.get i).softTemp))))) ∧
      (temperatureOf sink = none →
        t.sense.sinkTemp = s.sense.sinkTemp ∧ t.sense.sinkFault = true ∧ t.sense.sinkRecovery = 0 ∧ t.sense.sinkHot = true) ∧
      (∀ x, temperatureOf sink = some x →
        t.sense.sinkTemp = some x ∧
          (if s.sense.sinkFault = true ∧ s.sense.sinkRecovery = 0 then
            t.sense.sinkFault = true ∧ t.sense.sinkRecovery = 1 ∧ t.sense.sinkHot = s.sense.sinkHot
          else
            t.sense.sinkFault = false ∧ t.sense.sinkRecovery = 0 ∧ t.sense.sinkHot = decide (s.setup.sinkHard ≤ x))) ∧
      t.sense =
        { s.sense with
          acc := t.sense.acc
          sinkTemp := t.sense.sinkTemp
          sinkFault := t.sense.sinkFault
          sinkRecovery := t.sense.sinkRecovery
          sinkHot := t.sense.sinkHot
          converting := false } ∧
      (let onset := !s.sense.sinkHot && t.sense.sinkHot
      s.CutOf t (fun i => onset || (decide (0 < s.drive.density.get i) && undrivable (coilState (t.coils.get i))))
        fun i => onset || decide (coilState (t.coils.get i) ≠ .idle)) ∧
      (s.sense.sinkHot = false → t.sense.sinkHot = true → t.DriveOff) ∧
      ∀ code : BitVec 12,
        temperatureOf code =
          if code.toNat ≤ 127 ∨ 3969 ≤ code.toNat then none
          else if code.toNat ≤ 399 then some 0
          else if code.toNat ≤ 3600 then some ((code.toNat - 400) * 3 / 32)
          else some 300

/-! ### Probing -/

/-- O18. R3 to R5: a mark in the pulse, or within 100 ticks of the pulse's end or of the last accepted mark, is ignored; every other
one is accepted, every even-numbered one after mark 0 ends a full cycle, and full cycle 31 ends the probe. Where the partner's probe has
ended, that completes the pair as the decay of the ring after the mark would. The ring count is the number of full cycles ended, and the
ring period their mean length, at most 2000 ticks; below two full cycles there is none. -/
def Obligations.RingMarkIsNoiseOrCounts : Prop :=
  ∀ (d : Fin 2) (time : Nat) (s : State), s.sup.held = false →
    (((s.probe.capture d).phase ≠ .ringing ∨ time < (s.probe.capture d).pulseEnd + 100 ∨
        ((s.probe.capture d).marks ≠ 0 ∧ time < (s.probe.capture d).lastMark + 100)) →
      exec (.ringMark d time) s = .next s) ∧
    ((s.probe.capture d).phase = .ringing → (s.probe.capture d).pulseEnd + 100 ≤ time →
      ((s.probe.capture d).marks = 0 ∨ (s.probe.capture d).lastMark + 100 ≤ time) →
      ((s.probe.capture d).marks ≠ 62 ∨ (s.probe.capture (1 - d)).phase ≠ .ended) →
      exec (.ringMark d time) s =
        .next
          { s with
            probe :=
              s.probe.setCapture d
                { s.probe.capture d with
                  firstMark := if (s.probe.capture d).marks = 0 then time else (s.probe.capture d).firstMark
                  lastMark := time
                  marks := (s.probe.capture d).marks + 1
                  cycleEnd :=
                    if 0 < (s.probe.capture d).marks ∧ (s.probe.capture d).marks % 2 = 0 then time
                    else (s.probe.capture d).cycleEnd
                  phase := if (s.probe.capture d).marks = 62 then .ended else .ringing } }) ∧
    ((s.probe.capture d).phase = .ringing → (s.probe.capture d).pulseEnd + 100 ≤ time →
      (s.probe.capture d).lastMark + 100 ≤ time → (s.probe.capture d).marks = 62 → (s.probe.capture (1 - d)).phase = .ended →
      exec (.ringMark d time) s =
        exec (.ringDecayed d)
          { s with
            probe :=
              s.probe.setCapture d { s.probe.capture d with lastMark := time, marks := 63, cycleEnd := time, phase := .ringing } }) ∧
    ∀ c : Capture,
      c.ringCount = (c.marks - 1) / 2 ∧
        c.ringPeriod =
          if (c.marks - 1) / 2 < 2 then none
          else some (min 2000 ((c.cycleEnd - c.firstMark) / ((c.marks - 1) / 2)))

/-- O19. R1, R2, R4, R5: at the compare match the pulses of the pair end together and the coils that had one ring from that time, the
probe of an unfitted coil having ended at the start of the pair; a decayed ring and the time limit each end the probe of their own coil,
whose result waits in its unit while the partner's probe runs. -/
def Obligations.ProbesRingAndEnd : Prop :=
  (∀ (time : Nat) (rung : Capture → Capture) (s : State), s.sup.held = false →
    (∀ u, u.phase = .pulse → rung u = { u with phase := .ringing, pulseEnd := time }) →
    (∀ u, u.phase ≠ .pulse → rung u = u) →
    exec (.probePulseEnd time) s =
      .next { s with probe := { s.probe with unit0 := rung s.probe.unit0, unit1 := rung s.probe.unit1 } }) ∧
  (∀ (d : Fin 2) (s : State), s.sup.held = false → (s.probe.capture d).phase = .ringing →
    (s.probe.capture (1 - d)).phase ≠ .ended →
    exec (.ringDecayed d) s =
        .next { s with probe := s.probe.setCapture d { s.probe.capture d with phase := .ended } } ∧
      exec (.timeLimit d) s =
        .next { s with probe := s.probe.setCapture d { s.probe.capture d with phase := .ended } })

/-- O20. R1, R5, R14, R15, R25 to R40, R98, R101: when the second probe of a pair ends, by decay, by the time limit or by mark 62, the
results of its fitted coils reach their records, first that of the coil on RD0 (log entry 31); a presence that becomes NONFERROUS hands
UNSUITABLE to the queue, the frequency rises to the new floor of a heating coil, also of one that the same result withdraws (log entry
10), and a coil that may no longer be driven is withdrawn. Every other record keeps what the probe measures. The next pair with a fitted
coil is then in flight, the pairs between being complete at their own start; where no later pair has one the sweep is idle and the
tracking update has made the pan table and the lifted list anew. Its steps take a component's tag by R29 to R32 and Table 2-4 and join
the components of a tag by R34. The probes' times are the commands' own (log entry 16), the order of an update's frames is log entry 34,
and where the GONE of a capacity eviction stands among them is log entry 32. -/
def Obligations.PairCompletionWritesTheRecords : Prop :=
  (∀ (d : Fin 2) (p : Fin 4) (s : State), s.sup.held = false → s.probe.sweep = some p →
    (s.probe.capture d).phase = .ringing → (s.probe.capture (1 - d)).phase = .ended →
    ∀ (c : Instr) (ended : Capture),
      ((c = .ringDecayed d ∨ c = .timeLimit d) ∧ ended = s.probe.capture d ∨
        ∃ time, c = .ringMark d time ∧ (s.probe.capture d).pulseEnd + 100 ≤ time ∧ (s.probe.capture d).lastMark + 100 ≤ time ∧
          (s.probe.capture d).marks = 62 ∧ ended = { s.probe.capture d with lastMark := time, marks := 63, cycleEnd := time }) →
      ∃ t, exec c s = .next t ∧
        (∀ e i, i = detectorCoil p e → (s.coils.get i).fitted = true →
          let result := if e = d then ended else s.probe.capture e
          (t.coils.get i).coverage = probeCoverage (s.setup.coils.get i) result.ringCount ∧
            (t.coils.get i).floor = probeFloor (s.setup.coils.get i) result.ringPeriod ∧
            (t.coils.get i).liftSuspected = false ∧
            (t.coils.get i).presence =
              nextPresence (judgesMaterial (s.coils.get i))
                (materialPasses (s.setup.coils.get i) result.ringPeriod) (s.coils.get i).presence
                (probeCoverage (s.setup.coils.get i) result.ringCount)) ∧
        (∀ i, (∀ e, i ≠ detectorCoil p e) ∨ (s.coils.get i).fitted = false →
          t.coils.get i = { s.coils.get i with heating := (t.coils.get i).heating }) ∧
        ((∀ i, undrivable (coilState (s.coils.get i)) = true → s.drive.density.get i = 0) →
          let risen := fun i => if (s.coils.get i).fitted = true ∧ (s.coils.get i).heating = true then (t.coils.get i).floor else 0
          t.drive.frequency = max s.drive.frequency (max (risen (detectorCoil p 0)) (risen (detectorCoil p 1))) ∧
            ∀ i,
              t.drive.density.get i =
                if undrivable (coilState (t.coils.get i)) = true ∨ t.probe.sweep = none ∧ t.targeted i = false then 0
                else s.drive.density.get i) ∧
        (let asked := fun i (l : Link) =>
            let tag := (s.tracker.pans.find? fun f => decide (i ∈ f.coils)).map fun f => f.tag
            if (s.coils.get i).presence ≠ .nonferrous ∧ (t.coils.get i).presence = .nonferrous ∧ s.sup.state ≠ .silent then
              l.hand (.notice tag .unsuitable) s.setup.noticeLevel (encodeNotice tag .unsuitable i.val)
            else l
        let before := asked (detectorCoil p 1) (asked (detectorCoil p 0) s.link)
        (∀ q, p < q →
            (s.coils.get (firstCoil q)).fitted = true ∨ (s.coils.get (secondCoil q)).fitted = true →
            (∀ r, p < r → r < q → (s.coils.get (firstCoil r)).fitted = false ∧ (s.coils.get (secondCoil r)).fitted = false) →
            t.probe.sweep = some q ∧
              t.probe.unit0 = { Capture.off with phase := if (s.coils.get (firstCoil q)).fitted = true then .pulse else .ended } ∧
              t.probe.unit1 = { Capture.off with phase := if (s.coils.get (secondCoil q)).fitted = true then .pulse else .ended } ∧
              t.tracker = s.tracker ∧ t.link = before) ∧
          ((∀ q, p < q → (s.coils.get (firstCoil q)).fitted = false ∧ (s.coils.get (secondCoil q)).fitted = false) →
            t.probe.sweep = none ∧ s.TrackedFrom t before))) ∧
  (∀ (position : Position) (peers : List PeerEntry) (c : Component),
    c.EdgeTagged (neighbourEdge position peers c) position peers) ∧
  (∀ (t : Tagging) (c : Component), t.ResumedTo (resumeOne t c) c) ∧
  (∀ (position : Position) (previous : List Fragment) (rest : List Component) (t : Tagging) (c : Component),
    t.NewTagTo (newTagOne position previous rest t c) position previous rest c) ∧
  (∀ (position : Position) (coils : Eight Coil) (peers : List PeerEntry) (c : Component) (own : Tag), c.tag = some own →
    c.SeniorTo (seniorityOf position coils peers c) own fun e => e ∈ peers ∧ Touches position coils c.tag c.coils e) ∧
  (∀ (coils : Eight Coil) (previous : List Fragment) (comps : List Component) (f : Fragment),
    f ∈ joinByTag coils previous [] comps → f.JoinedFrom comps) ∧
  (∀ (coils : Eight Coil) (previous : List Fragment) (comps : List Component),
    ((joinByTag coils previous [] comps).map fun f => f.tag).Nodup ∧
      ∀ c ∈ comps, ∀ tag, c.tag = some tag → ∃ f ∈ joinByTag coils previous [] comps, f.tag = tag)

/-- O21. R11 to R14: coverage, material check and floor from a ring count and a ring period (both of R3 and R4, from the marks: O18), for
a setup that keeps Ke − Kf at least 4; every result stores its coverage and its floor, clears lift suspected and sets the presence by Table 1-4, or by the coverage
alone where the coil was HOT or FAULTED. -/
def Obligations.ProbeResultArithmetic : Prop :=
  ∀ (su : CoilSetup) (c : Capture) (k : Nat), su.fullCount + 4 ≤ su.emptyCount →
    ((probeCoverage su k : Int) =
      max 0 (min 64 (64 * ((su.emptyCount : Int) - k) / ((su.emptyCount : Int) - su.fullCount)))) ∧
    (materialPasses su c.ringPeriod = true ↔
      c.ringCount < 2 ∨ ∃ p, c.ringPeriod = some p ∧ su.emptyPeriod * 60 ≤ p * 64) ∧
    (c.ringCount < 2 → probeFloor su c.ringPeriod = max 41 (min 140 su.floor)) ∧
    (∀ p, 2 ≤ c.ringCount → c.ringPeriod = some p →
      probeFloor su c.ringPeriod = max 41 (min 140 (max su.floor ((32000 + p - 1) / p + 4)))) ∧
    (∀ (period : Option Nat) (r : Coil),
      (takeResult su k period r).coverage = probeCoverage su k ∧ (takeResult su k period r).floor = probeFloor su period) ∧
    (∀ (period : Option Nat) (r : Coil),
      takeResult su k period r =
        { r with
          coverage := probeCoverage su k
          floor := probeFloor su period
          liftSuspected := false
          presence := nextPresence (judgesMaterial r) (materialPasses su period) r.presence (probeCoverage su k) }) ∧
    (∀ r : Coil,
      judgesMaterial r = false ↔
        r.fitted = true ∧ r.presence = .pan ∧ (0 < r.faultTimer ∨ r.faultRetries = 3 ∨ r.overheat = true)) ∧
    (∀ (passes : Bool) (before : Presence) (coverage : Nat),
      nextPresence true false before coverage = .nonferrous ∧
        nextPresence true true .pan coverage = (if 16 ≤ coverage then .pan else .absent) ∧
        (before ≠ .pan → nextPresence true true before coverage = if 24 ≤ coverage then .pan else .absent) ∧
        nextPresence false passes before coverage = if 16 ≤ coverage then .pan else .absent)

/-! ### The allocation point -/

/-- O22. R6, R20, R54, R67, R68, R70 to R76, R78: the figures the allocation point leaves in RUN once a tracking update has joined a fragment
to a program (before that: O25), each from the figures before it. With a sweep in flight the sweep is aborted first: the pair in flight
writes nothing, the tracking update runs on the records as they stand (the order of its frames: log entries 32 and 34), and the point
goes on from what it leaves as from any state with no sweep. -/
def Obligations.AllocationFigures : Prop :=
  (∀ (p : Fin 4) (s : State), s.sup.held = false → s.timebase.allocationRaised = true → s.sup.state = .run →
    s.probe.sweep = some p →
    ∃ u, exec .allocationPoint s = exec .allocationPoint u ∧ s.TrackedFrom u s.link ∧ s.CutOf u (s.untargeted u) (fun _ => false) ∧
      u =
        { s with
          probe := { s.probe with sweep := none, unit0 := Capture.off, unit1 := Capture.off }
          coils := s.coils.mapIx fun i c => { c with heating := (u.coils.get i).heating }
          tracker := u.tracker
          alloc := { s.alloc with joined := u.alloc.joined }
          drive := u.drive
          sense := { s.sense with acc := u.sense.acc }
          link := { s.link with queue := u.link.queue, dropped := u.link.dropped } }) ∧
  ∀ s : State, s.sup.held = false → s.timebase.allocationRaised = true → s.sup.state = .run → s.setupGood = true →
    s.probe.sweep = none → s.alloc.joined = true →
    ∃ t, exec .allocationPoint s = .next t ∧ t.timebase = { s.timebase with allocationRaised := false } ∧ t.probe = s.probe ∧
      (∀ i, (t.coils.get i).effectiveMax = effectiveMaximum (s.setup.coils.get i) (s.coils.get i)) ∧
      (∀ i,
        (s.coils.get i).fitted = false ∨ coilState (s.coils.get i) = .hot ∨ coilState (s.coils.get i) = .faulted ∨
            coilState (s.coils.get i) = .held ∨ coilState (s.coils.get i) = .blocked ∨ (s.coils.get i).overheat = true ∨
            0 < (s.coils.get i).faultTimer ∨ (s.coils.get i).faultRetries = 3 ∨ (s.coils.get i).held = true ∨
            (s.coils.get i).temperature = none →
          (t.coils.get i).effectiveMax = 0) ∧
      (∀ i x,
        (s.coils.get i).fitted = true → coilState (s.coils.get i) ≠ .blocked → (s.coils.get i).overheat = false →
          (s.coils.get i).faultTimer = 0 → (s.coils.get i).faultRetries ≠ 3 → (s.coils.get i).held = false →
          (s.coils.get i).temperature = some x →
          (t.coils.get i).effectiveMax =
            if x ≤ (s.setup.coils.get i).softTemp then (s.setup.coils.get i).coilMax
            else if x < (s.setup.coils.get i).hardTemp then
              (s.setup.coils.get i).coilMax * ((s.setup.coils.get i).hardTemp - x) /
                ((s.setup.coils.get i).hardTemp - (s.setup.coils.get i).softTemp)
            else 0) ∧
      t.tracker =
        { s.tracker with
          pans :=
            s.tracker.pans.map fun f =>
              { f with
                share :=
                  currentTarget s.cache f * f.area /
                    (f.area +
                      ((s.link.peers.filter fun e => decide (e.report.tag = f.tag)).map fun e => e.report.area).sum) } } ∧
      (∀ f,
        (f.program = none → currentTarget s.cache f = 0) ∧
          ∀ p, f.program = some p →
            (p.done = true → currentTarget s.cache f = 0) ∧
              (p.done = false →
                ∀ e, cacheEntry s.cache f.tag = some e → currentTarget s.cache f = (stepAt e.steps p.step).target)) ∧
      (∀ i, t.alloc.assigned.get i = true ↔ ∃ f ∈ s.tracker.pans, i ∈ f.coils ∧ 0 < currentTarget s.cache f) ∧
      (∀ i, t.alloc.rawDemand.get i = rawDemand s.coils s.cache t.tracker.pans i) ∧
      (∀ i, t.alloc.demand.get i = min (t.alloc.rawDemand.get i) (t.coils.get i).effectiveMax) ∧
      t.alloc.demandSum = t.alloc.demand.sum ∧
      t.alloc.sinkCap =
        (if s.sense.sinkFault = true then 0
        else
          match s.sense.sinkTemp with
          | none => 0
          | some x =>
            if s.setup.sinkHard ≤ x then 0
            else if x ≤ s.setup.sinkSoft then s.setup.moduleMax
            else s.setup.moduleMax * (s.setup.sinkHard - x) / (s.setup.sinkHard - s.setup.sinkSoft)) ∧
      t.alloc.moduleDemand = min t.alloc.demandSum t.alloc.sinkCap ∧
      t.alloc.moduleMax =
        min (Eight.ofFn fun i => if (t.coils.get i).fitted then (t.coils.get i).effectiveMax else 0).sum t.alloc.sinkCap ∧
      t.alloc.phaseSum =
        t.alloc.moduleDemand +
          (Eight.ofFn fun q => if q = s.sup.position then 0 else contribution s.setup.phase (s.link.roster.get q)).sum ∧
      (∀ (phase : Phase) (st : Status) (age : Nat),
        contribution phase { content := none, age := age } = 0 ∧
          contribution phase { content := some st, age := age } =
            if 8 < age then 0
            else if st.phase ≠ phase then 0
            else if age ≤ 3 then st.demand
            else st.maximum) ∧
      (t.alloc.phaseSum ≤ s.setup.phaseLimit → t.alloc.moduleGrant = t.alloc.moduleDemand) ∧
      (s.setup.phaseLimit < t.alloc.phaseSum →
        t.alloc.moduleGrant = s.setup.phaseLimit * t.alloc.moduleDemand / t.alloc.phaseSum) ∧
      (t.alloc.moduleDemand = 0 → t.alloc.moduleGrant = 0) ∧
      (s.setup.phaseLimit = 0 → t.alloc.moduleGrant = 0) ∧
      t.alloc.moduleGrant ≤ s.setup.phaseLimit ∧
      t.alloc.moduleGrant ≤ t.alloc.moduleDemand ∧
      (∀ i,
        t.alloc.grant.get i =
          if t.alloc.demandSum = 0 then 0 else t.alloc.demand.get i * t.alloc.moduleGrant / t.alloc.demandSum)

/-- O23. R78: in every window the coil grants stay within the module grant, it within the module demand, and that within the sum
of the effective maxima. -/
def Obligations.GrantsStayWithinDemand : Prop :=
  ∀ s : State, s.sup.held = false → s.timebase.allocationRaised = true → s.setupGood = true →
    ∃ t, exec .allocationPoint s = .next t ∧
      t.alloc.grant.sum ≤ t.alloc.moduleGrant ∧ t.alloc.moduleGrant ≤ t.alloc.moduleDemand ∧
      t.alloc.moduleDemand ≤ t.alloc.demand.sum ∧
      t.alloc.demand.sum ≤ (t.coils.map fun c => c.effectiveMax).sum ∧
      t.alloc.moduleDemand ≤ t.alloc.moduleMax

/-- O24. R70: each coil of a fragment takes its coverage's part of the share, and the coil of largest coverage, of equal ones the
lowest index, the remainder too, which is less than the number of coils; so the raw demands sum exactly to the share. A coil of no
fragment with a target has raw demand 0. -/
def Obligations.RawDemandsSumToTheShare : Prop :=
  (∀ (coils : Eight Coil) (f : Fragment), f.coils ≠ [] → f.coils.Pairwise (fun i j => i < j) → 0 < f.area →
    f.area = (f.coils.map fun i => (coils.get i).coverage).sum →
    (f.coils.map (rawDemandIn coils f)).sum = f.share ∧
      ∃ m ∈ f.coils, ∃ rest < f.coils.length,
        (f.coils.map fun i => f.share * (coils.get i).coverage / f.area).sum + rest = f.share ∧
          (∀ i ∈ f.coils, (coils.get i).coverage ≤ (coils.get m).coverage) ∧
          (∀ i ∈ f.coils, (coils.get i).coverage = (coils.get m).coverage → m ≤ i) ∧
          ∀ i ∈ f.coils,
            rawDemandIn coils f i = f.share * (coils.get i).coverage / f.area + (if i = m then rest else 0)) ∧
  (∀ (coils : Eight Coil) (cache : List CacheEntry) (pans : List Fragment) (i : CoilIx),
    ((∀ f ∈ pans, i ∈ f.coils → currentTarget cache f = 0) → rawDemand coils cache pans i = 0) ∧
      ∀ f ∈ pans, (∀ g ∈ pans, i ∈ g.coils → g = f) → i ∈ f.coils → 0 < currentTarget cache f →
        rawDemand coils cache pans i = rawDemandIn coils f i)

/-- O25. R66, R94, R97, R104, R107, R137, R141, R157, R164: outside RUN, and in RUN until a tracking update has joined a fragment to a
program, the allocation point computes zeros and hands over densities of 0. With a good setup it leaves the lock FREE at the start
frequency clamped to the chain floor; before setup is good lock and frequency stay (log entry 23). In SETUP_FAULT, QUIET, STOPPED and
such a RUN the status with D, G and M of 0 and empty masks, and with the link counts that stand before it is handed over, is handed to
the queue, at level 1 in SETUP_FAULT; LOADING and SILENT hand none. That in RUN every figure stays 0 so long, the sink cap and the module maximum too, is how the model reads R66 (log entry 33). -/
def Obligations.AllocationOutsideRunIsZero : Prop :=
  ∀ s : State, s.sup.held = false → s.timebase.allocationRaised = true →
    s.sup.state ≠ .run ∨ s.probe.sweep = none ∧ s.alloc.joined = false →
    ∃ t, exec .allocationPoint s = .next t ∧ t.alloc = Allocator.zero ∧ t.probe.sweep = none ∧
      t.drive.density = Eight.fill 0 ∧ t.drive.driven = Eight.fill false ∧ (∀ i, (t.coils.get i).heating = false) ∧
      t.drive.shortfall = 0 ∧ t.drive.published = min 4095 s.drive.cutLoss ∧ t.drive.cutLoss = 0 ∧
      t.drive.handedFrequency = t.drive.frequency ∧
      (s.setupGood = true →
        (∀ i, (t.coils.get i).held = false) ∧ t.drive.role = .free ∧ t.drive.pendingCounter = 0 ∧
          t.drive.leftMask = 0 ∧ t.drive.rightMask = 0 ∧
          t.drive.frequency = max t.drive.chainFloor (min 140 s.setup.startFrequency)) ∧
      (s.setupGood = false →
        (∀ i, (t.coils.get i).held = (s.coils.get i).held) ∧ t.drive.role = s.drive.role ∧
          t.drive.pendingCounter = s.drive.pendingCounter ∧ t.drive.frequency = s.drive.frequency ∧
          t.drive.lockFloor = s.drive.lockFloor ∧ t.drive.chainFloor = s.drive.chainFloor) ∧
      t.sup = s.sup ∧ t.cache = s.cache ∧
      (s.sup.state = .loading ∨ s.sup.state = .silent → t.link = s.link) ∧
      (s.sup.state = .setupFault ∨ s.sup.state = .quiet ∨ s.sup.state = .stopped ∨ s.sup.state = .run ∧ s.setupGood = true →
        ∃ st, ({ t with link := s.link } : State).IdleStatus st ∧
          t.link = s.link.statusHanded (if s.setupGood = true then s.setup.statusLevel else 1) st)

/-- O26. R94 to R96, R99, R137, R157, R171: the hand-over of the allocation point in RUN sets raw densities, densities, heating flags,
slot patterns and the shortfall, the drive of the slot starts from them, and the status with the figures it leaves is handed to the
queue, under ALONE at one window in eight. -/
def Obligations.HandOverSetsDensities : Prop :=
  ∀ s : State, s.sup.held = false → s.timebase.allocationRaised = true → s.sup.state = .run → s.setupGood = true →
    s.probe.sweep = none →
    ∃ t, exec .allocationPoint s = .next t ∧
      (∀ i,
        s.powerTaken i =
          max 1
            (match s.sense.power.get i with
            | none => (s.setup.coils.get i).nominalPower
            | some p => p)) ∧
      (∀ i, t.drive.rawDensity.get i = (30 * t.alloc.grant.get i + s.powerTaken i) / (2 * s.powerTaken i)) ∧
      (∀ x : CoilState, undrivable x = true ↔ x = .idle ∨ x = .blocked ∨ x = .hot ∨ x = .faulted ∨ x = .held) ∧
      (∀ i,
        t.drive.density.get i =
          if undrivable (coilState (t.coils.get i)) = true ∨ (s.coils.get i).liftSuspected = true ∨
              s.timebase.mainsLost = true ∨ s.link.linkBlocked = true ∨ s.sense.sinkHot = true then 0
          else min 15 (t.drive.rawDensity.get i)) ∧
      (∀ i, (t.coils.get i).heating = decide (0 < t.drive.density.get i)) ∧
      (∀ i slot,
        slot ∈ t.drive.pattern.get i ↔
          1 ≤ slot ∧ slot ≤ 15 ∧
            ((slot - 1 + 2 * i.val) % 15 + 1) * t.drive.density.get i / 15 -
                ((slot - 1 + 2 * i.val) % 15) * t.drive.density.get i / 15 = 1) ∧
      (∀ i,
        t.drive.driven.get i = true ↔
          0 < t.drive.density.get i ∧ s.timebase.halfCycle ≠ 0 ∧ s.timebase.halfCycle.val ∈ t.drive.pattern.get i ∧
            s.inhibited = false ∧ s.stopAsserted = false) ∧
      t.drive.counter = 0 ∧ t.drive.cutLoss = 0 ∧
      t.drive.shortfall =
        min 4095 (Eight.ofFn fun i => t.alloc.grant.get i - t.drive.density.get i * s.powerTaken i / 15).sum ∧
      t.drive.published = min 4095 (t.drive.shortfall + s.drive.cutLoss) ∧ t.drive.handedFrequency = t.drive.frequency ∧
      ∃ (st : Status) (conditions : List Nat), t.Active conditions ∧
        st =
          { stateCode := 3
            phase := s.setup.phase
            causeCode := resetCauseCode s.sup.resetCause
            demand := t.alloc.moduleDemand
            grant := t.alloc.moduleGrant
            maximum := t.alloc.moduleMax
            frequency := t.drive.frequency
            role := t.drive.role
            chainFloor := t.drive.lockFloor
            leftMask := t.drive.leftMask
            rightMask := t.drive.rightMask
            faultTop := conditions.headD 0
            faultCount := conditions.length
            byte12 := 0
            losses := s.link.losses
            rejects := s.link.rejects
            unheard := s.link.unheard
            dropped := s.link.dropped
            malformed := s.link.malformed
            shortfall := t.drive.published } ∧
        t.link = s.link.statusHanded s.setup.statusLevel st

/-- O27. R97, R104, R106 to R109, Tables 5-4, 6-1 and 6-2: the masks, the floors, the lock role, the pending counter, the held coils and
the frequency that the hand-over decides from the neighbours' last statuses, the assigned coils and their floors. Where every assigned
coil is held, n* is a free value (log entry 5), and the clause holds for whatever it is. -/
def Obligations.HandOverDecidesTheLock : Prop :=
  ∀ s : State, s.sup.held = false → s.timebase.allocationRaised = true → s.sup.state = .run → s.setupGood = true →
    s.probe.sweep = none →
    ∃ t, exec .allocationPoint s = .next t ∧
      (∀ r, inMask t.drive.leftMask r = t.alloc.assigned.get (leftCoil r)) ∧
      (∀ r, inMask t.drive.rightMask r = t.alloc.assigned.get (rightCoil r)) ∧
      (let right := s.rosterOf (rightNeighbour s.sup.position)
      (∀ st, right.content = some st → right.freshness = .fresh →
          st.role = .following ∨ st.role = .pending ∨ st.role = .refused → t.drive.rightContribution = st.chainFloor) ∧
        ((∀ st, right.content = some st → right.freshness = .fresh → st.role = .free ∨ st.role = .lost) →
          t.drive.rightContribution = 41)) ∧
      (∀ i, (t.coils.get i).floor = (s.coils.get i).floor) ∧
      (41 ≤ t.drive.lockFloor ∧ t.drive.rightContribution ≤ t.drive.lockFloor ∧
        (∀ i, t.alloc.assigned.get i = true → (t.coils.get i).floor ≤ t.drive.lockFloor) ∧
        (t.drive.lockFloor = 41 ∨ t.drive.lockFloor = t.drive.rightContribution ∨
          ∃ i, t.alloc.assigned.get i = true ∧ t.drive.lockFloor = (t.coils.get i).floor)) ∧
      (41 ≤ t.drive.ownFloor ∧
        (∀ i, t.alloc.assigned.get i = true → (t.coils.get i).held = false → (t.coils.get i).floor ≤ t.drive.ownFloor) ∧
        (t.drive.ownFloor = 41 ∨
          ∃ i, t.alloc.assigned.get i = true ∧ (t.coils.get i).held = false ∧ t.drive.ownFloor = (t.coils.get i).floor)) ∧
      t.drive.chainFloor = max t.drive.ownFloor t.drive.rightContribution ∧
      (t.drive.role = .pending ∨ t.drive.role = .refused → t.drive.frequency = t.drive.chainFloor) ∧
      (t.drive.role = .free ∨ t.drive.role = .lost →
        ((∀ i, t.alloc.assigned.get i = false) →
          t.drive.frequency = max t.drive.chainFloor (min 140 s.setup.startFrequency)) ∧
        ((∃ i, t.alloc.assigned.get i = true) →
          ∃ n,
            ((∃ i, t.alloc.assigned.get i = true ∧ (t.coils.get i).held = false) →
              (∃ i, t.alloc.assigned.get i = true ∧ (t.coils.get i).held = false ∧ t.drive.rawDensity.get i = n) ∧
                ∀ i, t.alloc.assigned.get i = true → (t.coils.get i).held = false → t.drive.rawDensity.get i ≤ n) ∧
            t.drive.frequency =
              max t.drive.chainFloor
                (min 140
                  (if 30 ≤ n then s.drive.frequency - 4
                  else if 16 ≤ n then s.drive.frequency - 1
                  else if 12 ≤ n then s.drive.frequency
                  else s.drive.frequency + 1)))) ∧
      (∀ i : CoilIx, 4 ≤ i.val → (t.coils.get i).held = false) ∧
      (s.leader.freshness = .gone →
        t.drive.role = .free ∧ t.drive.pendingCounter = 0 ∧ ∀ i, (t.coils.get i).held = false) ∧
      (∀ st, s.leader.content = some st → s.leader.freshness ≠ .gone →
        (¬ (∃ r, t.alloc.assigned.get (leftCoil r) = true ∧ inMask st.rightMask r = true) →
          t.drive.role = .free ∧ t.drive.pendingCounter = 0 ∧ ∀ i, (t.coils.get i).held = false) ∧
        ((∃ r, t.alloc.assigned.get (leftCoil r) = true ∧ inMask st.rightMask r = true) →
          (s.leader.freshness = .recent →
            t.drive.role = .lost ∧ t.drive.pendingCounter = 0 ∧
              ∀ r,
                (t.coils.get (leftCoil r)).held = true ↔
                  t.alloc.assigned.get (leftCoil r) = true ∧ inMask st.rightMask r = true) ∧
          (s.leader.freshness = .fresh → t.drive.lockFloor ≤ st.frequency →
            t.drive.role = .following ∧ t.drive.pendingCounter = 0 ∧ t.drive.frequency = st.frequency ∧
              ∀ i, (t.coils.get i).held = false) ∧
          (s.leader.freshness = .fresh → st.frequency < t.drive.lockFloor →
            (if s.drive.role = .refused ∨ (s.drive.role = .pending ∧ 4 ≤ s.drive.pendingCounter) then
              t.drive.role = .refused ∧ t.drive.pendingCounter = 4 ∧
                ∀ r,
                  (t.coils.get (leftCoil r)).held = true ↔
                    t.alloc.assigned.get (leftCoil r) = true ∧ inMask st.rightMask r = true
            else
              t.drive.role = .pending ∧
                t.drive.pendingCounter = (if s.drive.role = .pending then s.drive.pendingCounter + 1 else 1) ∧
                ∀ r,
                  (t.coils.get (leftCoil r)).held = true ↔
                    (s.coils.get (leftCoil r)).held = true ∧ t.alloc.assigned.get (leftCoil r) = true ∧
                      inMask st.rightMask r = true))))

/-- O28. R95: the slot pattern of a coil and density: the expression of the rule, exactly n slots on, none at density 0 and all
at 15, spread evenly; it is fixed at the hand-over, and a coil whose density has become 0 is driven no more. -/
def Obligations.SlotPatternIsEvenAndFixed : Prop :=
  (∀ (i : CoilIx) (n : Nat), n ≤ 15 →
    (∀ slot,
        slot ∈ slotPattern i n ↔
          1 ≤ slot ∧ slot ≤ 15 ∧
            ((slot - 1 + 2 * i.val) % 15 + 1) * n / 15 - (slot - 1 + 2 * i.val) % 15 * n / 15 = 1) ∧
      (∀ a b, 1 ≤ a → a ≤ 15 → 1 ≤ b → b ≤ 15 → (a - 1 + 2 * i.val) % 15 = (b - 1 + 2 * i.val) % 15 → a = b) ∧
      (slotPattern i n).length = n ∧ slotPattern i 0 = [] ∧ slotPattern i 15 = driveSlots ∧
      (8 ≤ n → ∀ slot, 1 ≤ slot → slot < 15 → slot ∈ slotPattern i n ∨ slot + 1 ∈ slotPattern i n) ∧
      (n ≤ 7 → ∀ slot, slot ∈ slotPattern i n → slot + 1 ∉ slotPattern i n)) ∧
  slotPattern 1 10 = slotPattern 4 10 ∧
  (∀ (c : Instr) (s t : State), s.timebase.allocationRaised = false → (∀ cause, c ≠ .reset cause) → exec c s = .next t →
    t.drive.pattern = s.drive.pattern) ∧
  (∀ (s : State) (i : CoilIx),
    s.startDrive.drive.driven.get i = true → 0 < s.drive.density.get i ∧ s.timebase.halfCycle.val ∈ s.drive.pattern.get i)

/-- O29. R91, R92: in a drive slot the gates of the driven coils follow the drive counter, which clears at the drive period, 128000 / f
ticks to the nearest. A count between two matches is not modelled (log entry 26). -/
def Obligations.GatesFollowTheDriveCounter : Prop :=
  ∀ (count period half dead : Nat) (s : State), s.sup.held = false → s.timebase.halfCycle ≠ 0 →
    period = (256000 + s.drive.frequency) / (2 * s.drive.frequency) → half = period / 2 → dead = s.setup.deadTime →
    (count = dead ∨ count = half - dead ∨ count = half + dead ∨ count = period - dead ∨ count = period) →
    exec (.driveCounterMatch count) s =
      .next
        { s with
          drive :=
            { s.drive with
              counter := if count = period then 0 else count
              highGate := s.drive.driven.map fun b => b && (decide (dead ≤ count) && decide (count < half - dead))
              lowGate := s.drive.driven.map fun b => b && (decide (half + dead ≤ count) && decide (count < period - dead)) } }

/-! ### Second ticks and programs -/

/-- O30. R43, R52, R55, R56, R58, R101, R165: a raised second tick in RUN ages and expires the settings, advances the programs whose setting
is left, takes a unit of grace from every lifted entry, and raises the absence count; the homes of the programs whose step ends request
DONE or STEP, the entries that run out GONE; a coil left without a target is withdrawn. At the last count RUN is left as by
PANEL_ABSENCE. In QUIET and STOPPED only the absence count changes and, at the last count, the last panel state; in every other state
nothing does. The order inside the tick is the model's (log entry 9), and so is the order of the notices of several fragments or entries
(log entry 34). -/
def Obligations.SecondTickAdvancesPrograms : Prop :=
  (∀ s : State, s.sup.held = false → s.timebase.secondTickRaised = true → s.sup.state = .run → s.sup.absence < 9 →
    (s.cache.map fun e => e.tag).Nodup →
    ∃ t, exec .secondTick s = .next t ∧
      t.cache = (s.cache.filter fun e => e.age < 2).map (fun e => { e with age := e.age + 1 }) ∧
      t.tracker.serial = s.tracker.serial ∧
      t.tracker.pans =
        s.tracker.pans.map (fun f =>
          { f with
            program :=
              match cacheEntry s.cache f.tag with
              | none => f.program
              | some e => if e.age < 2 then f.program.map (tickProgram e.steps) else none }) ∧
      t.tracker.lifted =
        (s.tracker.lifted.filter fun e => 1 < e.grace).map (fun l =>
          { l with
            grace := l.grace - 1
            program := if (s.cache.any fun e => decide (e.tag = l.tag) && decide (2 ≤ e.age)) then none else l.program }) ∧
      s.CutOf t (s.untargeted t) (fun _ => false) ∧
      t =
        { s with
          timebase := { s.timebase with secondTickRaised := false }
          coils := s.coils.mapIx fun i c => { c with heating := (t.coils.get i).heating }
          tracker := t.tracker
          cache := t.cache
          drive := t.drive
          sense := { s.sense with acc := t.sense.acc }
          link :=
            Link.notifyEach s.setup.noticeLevel (fun _ => .gone)
              (s.tracker.lifted.filter fun e => decide (e.grace ≤ 1) && e.confirmed && e.wasHome)
              (s.tracker.pans.foldl
                (fun l f =>
                  match f.program, cacheEntry s.cache f.tag with
                  | some p, some e =>
                    if f.home = true ∧ e.age < 2 ∧ p.done = false ∧ 0 < (stepAt e.steps p.step).duration ∧ p.remaining ≤ 1 then
                      (if (tickProgram e.steps p).done = true then
                        l.notify s.setup.noticeLevel f.tag .done (tickProgram e.steps p).step
                      else if e.mode = .eachStep then
                        l.notify s.setup.noticeLevel f.tag .step (tickProgram e.steps p).step
                      else l)
                    else l
                  | _, _ => l)
                s.link)
          sup := { s.sup with absence := s.sup.absence + 1 } }) ∧
  (∀ s : State, s.sup.held = false → s.timebase.secondTickRaised = true → s.sup.state = .run → s.sup.absence = 9 →
    ∃ u, exec .secondTick { s with sup := { s.sup with absence := 0 } } = .next u ∧
      exec .secondTick s = exec .panelAbsence { u with sup := { u.sup with absence := 9 } }) ∧
  ∀ (s t : State), s.sup.held = false → s.timebase.secondTickRaised = true →
    t = { s with timebase := { s.timebase with secondTickRaised := false } } →
    (s.sup.state = .quiet ∨ s.sup.state = .stopped →
      exec .secondTick s =
        .next
          { t with
            sup :=
              if s.sup.absence < 9 then { s.sup with absence := s.sup.absence + 1 }
              else { s.sup with absence := 10, lastPanel := .standby } }) ∧
    (s.sup.state = .loading ∨ s.sup.state = .setupFault ∨ s.sup.state = .silent → exec .secondTick s = .next t) ∧
    ∀ (steps : List Step) (p : Program),
      (p.done = true ∨ (stepAt steps p.step).duration = 0 → tickProgram steps p = p) ∧
        (p.done = false → 0 < (stepAt steps p.step).duration →
          (1 < p.remaining → tickProgram steps p = { p with remaining := p.remaining - 1 }) ∧
            (p.remaining ≤ 1 →
              (∀ l, (stepAt steps p.step).loop = some l → 0 < p.loop.getD l.count →
                tickProgram steps p =
                  { p with
                    step := l.back, remaining := (stepAt steps l.back).duration, loop := some (p.loop.getD l.count - 1) }) ∧
                ∀ counter,
                  ((stepAt steps p.step).loop = none ∧ counter = p.loop ∨
                    (∃ l, (stepAt steps p.step).loop = some l ∧ p.loop.getD l.count = 0) ∧ counter = none) →
                  tickProgram steps p =
                    if p.step + 1 < steps.length then
                      { p with step := p.step + 1, remaining := (stepAt steps (p.step + 1)).duration, loop := counter }
                    else { p with step := steps.length - 1, remaining := 0, loop := none, done := true }))

/-- O31. R52, R101: a setting in its last second expires: its entry and every program state of its tag are removed, and a coil
left without a target is withdrawn; nothing else changes (log entry 4). -/
def Obligations.CacheExpiryRemovesTheProgram : Prop :=
  ∀ (tag : Tag) (e : CacheEntry) (s : State), s.sup.held = false → s.sup.state = .run →
    cacheEntry s.cache tag = some e → e.age = 2 →
    ∃ t, exec (.cacheExpiry tag) s = .next t ∧
      t.cache = s.cache.filter (fun x => !decide (x.tag = tag)) ∧
      t.tracker =
        { s.tracker with
          pans := s.tracker.pans.map fun f => if f.tag = tag then { f with program := none } else f
          lifted := s.tracker.lifted.map fun l => if l.tag = tag then { l with program := none } else l } ∧
      (∀ i, t.drive.density.get i = if t.targeted i = true then s.drive.density.get i else 0) ∧
      s.CutOf t (s.untargeted t) (fun _ => false) ∧
      t.coils = s.coils.mapIx (fun i c => { c with heating := (t.coils.get i).heating }) ∧
      t.sense = { s.sense with acc := t.sense.acc } ∧
      t = { s with cache := t.cache, tracker := t.tracker, coils := t.coils, drive := t.drive, sense := t.sense }

/-- O32. R56, R58, R101: a step in its last second loops back, falls through or makes the program done; the home requests DONE, or STEP
in the report mode EACH_STEP; a coil left without a target is withdrawn; nothing else changes (log entry 4). -/
def Obligations.StepEndGoesOn : Prop :=
  ∀ (f : Fragment) (p : Program) (e : CacheEntry) (s : State), s.sup.held = false → s.sup.state = .run →
    (s.tracker.pans.map fun g => g.tag).Nodup → f ∈ s.tracker.pans → f.program = some p →
    cacheEntry s.cache f.tag = some e → p.done = false → 0 < (stepAt e.steps p.step).duration → p.remaining ≤ 1 →
    ∃ t q, exec (.stepEnd f.tag) s = .next t ∧
      t.tracker =
        { s.tracker with
          pans := s.tracker.pans.map fun g => if g.tag = f.tag then { g with program := some q } else g } ∧
      q.revision = p.revision ∧
      (∀ l, (stepAt e.steps p.step).loop = some l → 0 < p.loop.getD l.count →
        q = { p with step := l.back, remaining := (stepAt e.steps l.back).duration, loop := some (p.loop.getD l.count - 1) }) ∧
      ((stepAt e.steps p.step).loop = none → p.step + 1 < e.steps.length →
        q = { p with step := p.step + 1, remaining := (stepAt e.steps (p.step + 1)).duration }) ∧
      (∀ l, (stepAt e.steps p.step).loop = some l → p.loop.getD l.count = 0 → p.step + 1 < e.steps.length →
        q = { p with step := p.step + 1, remaining := (stepAt e.steps (p.step + 1)).duration, loop := none }) ∧
      (((stepAt e.steps p.step).loop = none ∨ ∃ l, (stepAt e.steps p.step).loop = some l ∧ p.loop.getD l.count = 0) →
        e.steps.length ≤ p.step + 1 →
        q = { p with step := e.steps.length - 1, remaining := 0, loop := none, done := true }) ∧
      s.CutOf t (s.untargeted t) (fun _ => false) ∧
      t =
        { s with
          tracker := t.tracker
          coils := s.coils.mapIx fun i c => { c with heating := (t.coils.get i).heating }
          drive := t.drive
          sense := { s.sense with acc := t.sense.acc }
          link :=
            if f.home = false then s.link
            else if q.done = true then s.link.notify s.setup.noticeLevel f.tag .done q.step
            else if e.mode = .eachStep then s.link.notify s.setup.noticeLevel f.tag .step q.step
            else s.link }

/-- O33. R43, R142, R144, R150, R159: a lifted entry in its last unit of grace leaves the list, and GONE is handed to the queue exactly when
it was confirmed and this module was home (log entry 4). A frame handed to the queue replaces the payload of a waiting entry of its key
in place, is held as the replacement of a contending one, is appended, displaces the oldest waiting entry of the lowest level, or is
dropped; in SILENT it is discarded. A notice is the four bytes of Table 9-7. -/
def Obligations.GraceExpiryForgetsThePan : Prop :=
  (∀ (e : LiftedEntry) (s : State), s.sup.held = false → s.sup.state = .run →
    (s.tracker.lifted.map fun x => x.tag).Nodup → e ∈ s.tracker.lifted → e.grace = 1 →
    exec (.graceExpiry e.tag) s =
      .next
        { s with
          tracker := { s.tracker with lifted := s.tracker.lifted.filter fun x => !decide (x.tag = e.tag) }
          link :=
            if e.confirmed = true ∧ e.wasHome = true then
              s.link.hand (.notice (some e.tag) .gone) s.setup.noticeLevel (encodeNotice (some e.tag) .gone 0)
            else s.link }) ∧
  (∀ (key : Key) (level : Nat) (payload : List Byte) (s : State),
    (s.sup.state = .silent → s.hand key level payload = s) ∧
      (s.sup.state ≠ .silent → s.hand key level payload = { s with link := s.link.hand key level payload })) ∧
  (∀ kind code, (kind, code) ∈
        [(NoticeKind.appeared, (1 : Byte)), (.lifted, 2), (.returned, 3), (.gone, 4), (.merged, 5), (.contact, 6), (.step, 7), (.done, 8),
          (.unsuitable, 9)] →
      ∀ detail,
        (∀ tag : Tag,
          encodeNotice (some tag) kind detail =
            [BitVec.ofNat 8 (16 * tag.creator.val + tag.serial.val / 256), BitVec.ofNat 8 tag.serial.val, code,
              BitVec.ofNat 8 detail]) ∧
          encodeNotice none kind detail = [0, 0, code, BitVec.ofNat 8 detail]) ∧
  ∀ (key : Key) (level : Nat) (payload : List Byte) (entry : QueueEntry) (l : Link),
    entry = { key := key, level := level, payload := payload, contending := false, replacement := none } →
    ((∃ e ∈ l.queue, e.key = key) →
      l.hand key level payload =
        { l with
          queue :=
            l.queue.map fun e =>
              if e.key = key then
                (if e.contending = true then { e with replacement := some payload } else { e with payload := payload })
              else e }) ∧
      ((∀ e ∈ l.queue, e.key ≠ key) →
        (l.queue.length < 12 → l.hand key level payload = { l with queue := l.queue ++ [entry] }) ∧
          (12 ≤ l.queue.length → (∃ e ∈ l.queue, e.contending = false ∧ e.level < level) →
            ∃ before x after, l.queue = before ++ x :: after ∧ x.contending = false ∧ x.level < level ∧
              (∀ e ∈ l.queue, e.contending = false → x.level ≤ e.level) ∧
              (∀ e ∈ before, e.contending = false → x.level < e.level) ∧
              l.hand key level payload =
                { l with
                  queue := before ++ after ++ [entry], dropped := if l.dropped < 255 then l.dropped + 1 else 255 }) ∧
          (12 ≤ l.queue.length → (∀ e ∈ l.queue, e.contending = false → level ≤ e.level) →
            l.hand key level payload = { l with dropped := if l.dropped < 255 then l.dropped + 1 else 255 }))

/-- O34. R150, R165: the absence count reaching 10 sets the last panel state to STANDBY and takes RUN to QUIET, or to STOPPED when the
line is sensed asserted; QUIET and STOPPED only record it (log entry 4). How many slots the cut of either entry counts is the model's
reading of R96 (log entry 12). -/
def Obligations.PanelAbsenceLeavesRun : Prop :=
  ∀ s : State, s.sup.held = false → s.sup.absence = 9 →
    (s.sup.state = .quiet ∨ s.sup.state = .stopped →
      exec .panelAbsence s = .next { s with sup := { s.sup with absence := 10, lastPanel := .standby } }) ∧
    (s.sup.state = .run → s.stopAsserted = false →
      ∃ t, exec .panelAbsence s = .next t ∧ s.QuietFrom t ∧
        t.sup = { s.sup with state := .quiet, absence := 10, lastPanel := .standby, stopCause := .none }) ∧
    (s.sup.state = .run → s.stopAsserted = true →
      ∃ t, exec .panelAbsence s = .next t ∧ s.StoppedFrom t ∧ t.sup.lastPanel = .standby ∧ t.sup.absence = 10)

/-- O35. R55: a program of total duration T, with no loop and no step of duration 0, becomes done at the T-th second tick after it
starts, and not before. -/
def Obligations.ProgramIsDoneAtItsTotalDuration : Prop :=
  ∀ (revision : Byte) (steps : List Step) (n : Nat), steps ≠ [] → (∀ x ∈ steps, 0 < x.duration ∧ x.loop = none) →
    ((tickProgram steps)^[n] (startProgram revision steps)).done = decide ((steps.map fun x => x.duration).sum ≤ n)

/-! ### Measurement -/

/-- O36. R116: at a sample point a sample within the limit is paired with the bus conversion that stands and added to the coil's
accumulator; nothing else changes. -/
def Obligations.CurrentSampleAddsAPair : Prop :=
  ∀ (i : CoilIx) (k : Fin 8) (sample : BitVec 12) (s : State), s.sup.held = false → s.drive.driven.get i = true →
    (s.sense.acc.get i).inFlight = true → -2048 < sample.toInt → sample.toInt < 2047 →
    sample.toInt ≤ ((s.setup.coils.get i).currentLimit : Int) → -((s.setup.coils.get i).currentLimit : Int) ≤ sample.toInt →
    exec (.currentSample i (k.val * (drivePeriod s.drive.frequency / 8)) sample) s =
      .next
        { s with
          sense :=
            { s.sense with
              acc :=
                s.sense.acc.set i
                  { inFlight := true
                    sum := (s.sense.acc.get i).sum + sample.toInt * (s.sense.bus : Int)
                    count := (s.sense.acc.get i).count + 1 } } }

/-- O37. R100, R118, R120, R121: a sample outside the limit, or saturated, cuts its coil, discards the half-cycle and starts
or renews the coil's fault; no other coil changes. How many slots a cut counts is the model's reading of R96 (log entry 12). -/
def Obligations.OvercurrentCutsTheCoil : Prop :=
  ∀ (i : CoilIx) (k : Fin 8) (sample : BitVec 12) (s : State), s.sup.held = false → s.drive.driven.get i = true →
    (s.sense.acc.get i).inFlight = true →
    (sample.toInt = -2048 ∨ sample.toInt = 2047 ∨ ((s.setup.coils.get i).currentLimit : Int) < sample.toInt ∨
      sample.toInt < -((s.setup.coils.get i).currentLimit : Int)) →
    ∃ t, exec (.currentSample i (k.val * (drivePeriod s.drive.frequency / 8)) sample) s = .next t ∧
      t = { s with coils := t.coils, drive := t.drive, sense := t.sense } ∧
      t.coils.get i =
        { s.coils.get i with
          heating := false, faultTimer := 4, faultRetries := min 3 ((s.coils.get i).faultRetries + 1)
          overcurrentInWindow := true } ∧
      t.drive.density.get i = 0 ∧ t.drive.driven.get i = false ∧ t.drive.highGate.get i = false ∧
      t.drive.lowGate.get i = false ∧ t.sense.acc.get i = { inFlight := false, sum := 0, count := 0 } ∧
      t.drive.cutLoss = min 4095 (s.drive.cutLoss + s.cutLossOf i) ∧ t.drive.frequency = s.drive.frequency ∧
      t.sense = { s.sense with acc := t.sense.acc } ∧
      s.cutLossOf i =
        (if s.drive.density.get i = 0 ∨ s.timebase.halfCycle = 0 ∨ s.timebase.allocationRaised = true then 0
        else ((s.drive.pattern.get i).filter fun n => decide (s.timebase.halfCycle.val ≤ n)).length * s.powerTaken i / 15) ∧
      ∀ j, j ≠ i →
        t.coils.get j = s.coils.get j ∧ t.drive.density.get j = s.drive.density.get j ∧
          t.drive.driven.get j = s.drive.driven.get j ∧ t.drive.highGate.get j = s.drive.highGate.get j ∧
          t.drive.lowGate.get j = s.drive.lowGate.get j ∧ t.sense.acc.get j = s.sense.acc.get j

/-- O38. R115, R123: a conversion is held; once setup is good it marks a high bus, and in a drive slot it counts the run. -/
def Obligations.BusConversionIsHeldAndWatched : Prop :=
  ∀ (v : BitVec 10) (s : State), s.sup.held = false →
    (s.setupGood = false → exec (.busConversion v) s = .next { s with sense := { s.sense with bus := v.toNat } }) ∧
    (s.setupGood = true → s.timebase.halfCycle = 0 →
      exec (.busConversion v) s =
        .next
          { s with
            sense :=
              { s.sense with bus := v.toNat, busHigh := s.sense.busHigh || decide (s.setup.busMax < v.toNat) } }) ∧
    (s.setupGood = true → s.timebase.halfCycle ≠ 0 → (v.toNat ≤ s.setup.busMax ∨ s.sense.busRun ≠ 63) →
      exec (.busConversion v) s =
        .next
          { s with
            sense :=
              { s.sense with
                bus := v.toNat
                busHigh := s.sense.busHigh || decide (s.setup.busMax < v.toNat)
                busRun := if s.setup.busMax < v.toNat then (if s.sense.busRun < 64 then s.sense.busRun + 1 else 64) else 0 } })

/-- O39. R123, R166, R169: the 64th conversion in a row above V_max in a drive slot raises OVERVOLT: a module in QUIET or RUN
drives the stop line and enters STOPPED with cause OWN_OVERVOLT; one already STOPPED drives the line, starts the clear run anew and
changes its cause. How many slots a cut counts is the model's reading of R96 (log entry 12). -/
def Obligations.OvervoltStopsTheModule : Prop :=
  ∀ (v : BitVec 10) (s u : State), s.sup.held = false → s.setupGood = true → s.timebase.halfCycle ≠ 0 →
    s.setup.busMax < v.toNat → s.sense.busRun = 63 →
    u = { s with sense := { s.sense with bus := v.toNat, busHigh := true, busRun := 64 } } →
    (s.sup.state = .quiet ∨ s.sup.state = .run →
      ∃ t, exec (.busConversion v) s = .next t ∧ u.StoppedFrom t ∧ t.stopAsserted = true ∧
        t.sup = { s.sup with state := .stopped, stopCause := .ownOvervolt, overvoltageDrive := true, clearRun := 0 }) ∧
    (s.sup.state = .stopped →
      ∃ t, exec (.busConversion v) s = .next t ∧ u.AllCut t ∧ t.stopAsserted = true ∧
        t =
          { u with
            sup := { s.sup with stopCause := .ownOvervolt, overvoltageDrive := true, clearRun := 0 }
            coils := t.coils, drive := t.drive, sense := t.sense })

/-- O40. R150, R168, R169: the sixteenth clear report in a row ends the overvoltage drive (log entry 4); a STOPPED module whose line
nobody else drives leaves STOPPED by its last panel state, and one whose line is still driven stays, with cause EXTERNAL. How many slots
the cut of a QUIET entry counts is the model's reading of R96 (log entry 12). -/
def Obligations.OvervoltageReleaseLeavesStopped : Prop :=
  ∀ s : State, s.sup.held = false → s.sup.overvoltageDrive = true → s.sup.clearRun = 15 → s.sup.state = .stopped →
    (s.sup.stopExternal = true →
      exec .overvoltageDriveRelease s =
        .next { s with sup := { s.sup with overvoltageDrive := false, clearRun := 0, stopCause := .external } }) ∧
    (s.sup.stopExternal = false → s.sup.lastPanel = .on →
      exec .overvoltageDriveRelease s =
        .next
          { s with sup := { s.sup with overvoltageDrive := false, clearRun := 0, state := .run, stopCause := .none } }) ∧
    (s.sup.stopExternal = false → s.sup.lastPanel = .standby →
      ∃ t, exec .overvoltageDriveRelease s = .next t ∧ s.QuietFrom t ∧
        t.sup = { s.sup with overvoltageDrive := false, clearRun := 0, state := .quiet, stopCause := .none })

/-! ### The stop line and the panels -/

/-- O41. R103, R150, R166: an assertion of the stop line cuts all drive in every state, takes QUIET and RUN to STOPPED, and in STOPPED leaves
the stop cause by the module's own drive of the line. How many slots a cut counts is the model's reading of R96 (log entry 12). -/
def Obligations.StopLineAssertionEntersStopped : Prop :=
  ∀ s : State, s.sup.held = false →
    (s.sup.state = .quiet ∨ s.sup.state = .run →
      ∃ t, exec .stopLineAssertion s = .next t ∧ s.StoppedFrom t ∧
        t.sup =
          { s.sup with
            state := .stopped
            stopExternal := true
            stopCause := if s.sup.overvoltageDrive then .ownOvervolt else .external }) ∧
    (s.sup.state = .stopped →
      ∃ t, exec .stopLineAssertion s = .next t ∧ s.AllCut t ∧
        t =
          { s with
            sup :=
              { s.sup with
                stopExternal := true
                stopCause := if s.sup.overvoltageDrive then .ownOvervolt else .external }
            coils := t.coils, drive := t.drive, sense := t.sense }) ∧
    (s.sup.state = .loading ∨ s.sup.state = .setupFault ∨ s.sup.state = .silent →
      ∃ t, exec .stopLineAssertion s = .next t ∧ s.AllCut t ∧
        t =
          { s with
            sup := { s.sup with stopExternal := true }
            coils := t.coils, drive := t.drive, sense := t.sense })

/-- O42. R150, R168: at the release of the line a STOPPED module enters RUN, clearing nothing, when the last panel state is ON, and
QUIET when it is STANDBY. The rule says that a release cannot come while the module drives the line itself; that the command then only
clears the pin's level and the module stays is the model's (log entry 2), and so is the cause it then holds (log entry 17). How many slots
the cut of a QUIET entry counts is its reading of R96 (log entry 12). -/
def Obligations.StopLineReleaseLeavesStopped : Prop :=
  ∀ s : State, s.sup.held = false → s.sup.state = .stopped →
    (s.sup.overvoltageDrive = false → s.sup.lastPanel = .on →
      exec .stopLineRelease s =
        .next { s with sup := { s.sup with stopExternal := false, state := .run, stopCause := .none } }) ∧
    (s.sup.overvoltageDrive = false → s.sup.lastPanel = .standby →
      ∃ t, exec .stopLineRelease s = .next t ∧ s.QuietFrom t ∧
        t.sup = { s.sup with stopExternal := false, state := .quiet, stopCause := .none }) ∧
    (s.sup.overvoltageDrive = true →
      exec .stopLineRelease s = .next { s with sup := { s.sup with stopExternal := false, stopCause := .ownOvervolt } })

/-- O43. R138, R139, R150, R153, R164: a well-formed PANEL_STATE from a panel sets the last panel state and the absence count, and
moves the module between QUIET and RUN, or to STOPPED; where its state stays or becomes RUN nothing else changes. How many slots the cut
of either entry counts is the model's reading of R96 (log entry 12). -/
def Obligations.PanelStateMovesTheModule : Prop :=
  ∀ (source : LinkPos) (on : Bool) (s : State), s.sup.held = false → s.sup.state ≠ .silent → s.link.awaitsIdle = false →
    8 ≤ source.val →
    ∃ t, exec (.panelState source [if on then 1 else 2]) s = .next t ∧
      t.link.ackDriven = true ∧ t.link.rejectDriven = false ∧
      t.sup.lastPanel = (if on then .on else .standby) ∧ t.sup.absence = 0 ∧
      t.sup.state =
        (if s.sup.state = .quiet ∧ on = true then (if s.stopAsserted then .stopped else .run)
          else if s.sup.state = .run ∧ on = false then (if s.stopAsserted then .stopped else .quiet)
          else s.sup.state) ∧
      (s.sup.state = .run → on = false → s.stopAsserted = false → s.QuietFrom t) ∧
      (s.sup.state ≠ .stopped → t.sup.state = .stopped →
        s.StoppedFrom t ∧ t.sup.stopCause = if s.sup.overvoltageDrive then .ownOvervolt else .external) ∧
      (t.sup.state = s.sup.state ∨ t.sup.state = .run →
        t =
          { s with
            link := { s.link with lineIdle := false, ackDriven := true, rejectDriven := false }
            sup := { s.sup with state := t.sup.state, lastPanel := if on then .on else .standby, absence := 0 } })

/-! ### The line -/

/-- O44. R133, R143: at an idle line the entry started is of the highest level, then of the lowest kind number, then the
oldest; it becomes contending in its place. With none waiting the line is idle. A receiver that waited for idle waits no more (R138).
That the sender starts at this command is the model's (log entry 15). -/
def Obligations.LineIdleStartsTheMostUrgent : Prop :=
  ∀ s : State, s.sup.held = false → s.sup.state ≠ .silent → s.link.sending = none →
    (∀ e ∈ s.link.queue, e.contending = false) → (s.link.queue.map fun e => e.key).Nodup →
    (s.link.queue = [] →
      exec .lineIdle s = .next { s with link := { s.link with lineIdle := true, awaitsIdle := false } }) ∧
    (s.link.queue ≠ [] →
      ∃ before e after, s.link.queue = before ++ e :: after ∧
        (∀ x ∈ before, x.level < e.level ∨ x.level = e.level ∧ e.key.kindNumber < x.key.kindNumber) ∧
        (∀ x ∈ after, x.level < e.level ∨ x.level = e.level ∧ e.key.kindNumber ≤ x.key.kindNumber) ∧
        exec .lineIdle s =
          .next
            { s with
              link :=
                { s.link with
                  queue := before ++ { e with contending := true } :: after, lineIdle := false, awaitsIdle := false } })

/-- O45. R134, R142, R145: at contention lost the entry waits in its place with its replacement applied and the loss count rises;
at contention won it leaves the queue, its frame is on the line, its replacement becomes the newest waiting entry, and the
module is not blocked. -/
def Obligations.ContentionEndsForTheEntry : Prop :=
  ∀ (before after : List QueueEntry) (e : QueueEntry) (s : State), s.sup.held = false →
    s.link.queue = before ++ e :: after → e.contending = true → (∀ x ∈ before ++ after, x.contending = false) →
    exec .contentionLost s =
        .next
          { s with
            link :=
              { s.link with
                queue :=
                  before ++ { e with contending := false, payload := e.replacement.getD e.payload, replacement := none } :: after
                losses := if s.link.losses < 255 then s.link.losses + 1 else 255 } } ∧
      exec .contentionWon s =
        .next
          { s with
            link :=
              { s.link with
                queue :=
                  before ++ after ++
                    (match e.replacement with
                    | none => []
                    | some p => [{ e with contending := false, payload := p, replacement := none }])
                sending :=
                  some
                    { key := e.key, level := e.level, payload := e.payload
                      bits := wireBits e.level e.key.kindNumber s.sup.position.val e.payload }
                blockedCount := 0
                linkBlocked := false
                wonInWindow := true } }

/-- O46. R135, R140, R170: a collision in an own frame, and a correct frame from the module's own position, each take a module
in SETUP_FAULT, QUIET, RUN or STOPPED to SILENT, which drives the stop line and has cut, emptied and frozen what R170 names;
in LOADING the report is discarded. A frame of its own position is acknowledged before the module is silent, and is heard only while
the receiver waits for no idle line (log entry 21). How many slots the cut counts is the model's reading of R96 (log entry 12), and that
the stop cause stays in SILENT is its reading too (log entry 17). -/
def Obligations.PositionClashSilencesTheModule : Prop :=
  ∀ (c : Instr) (s : State), s.sup.held = false → s.sup.state ≠ .silent →
    ((c = .positionClash ∧ s.link.awaitsIdle = false) ∨ (c = .collision ∧ s.link.sending ≠ none)) →
    ∃ t, exec c s = .next t ∧
      (s.sup.state = .loading →
        t = { s with link := { s.link with
          sending := t.link.sending, lineIdle := t.link.lineIdle, ackDriven := t.link.ackDriven,
          rejectDriven := t.link.rejectDriven } }) ∧
      (s.sup.state ≠ .loading →
        s.AllCut t ∧ t.sup = { s.sup with state := .silent } ∧ t.stopAsserted = true ∧ t.probe.sweep = none ∧
          t.cache = [] ∧ t.alloc = Allocator.zero ∧ t.link.queue = [] ∧ t.link.sending = none ∧
          t.tracker =
            { s.tracker with
              pans := s.tracker.pans.map fun f => { f with program := none, share := 0 }
              lifted := s.tracker.lifted.map fun e => { e with program := none } } ∧
          t.link.roster = s.link.roster ∧ t.link.peers = s.link.peers ∧ t.timebase = s.timebase)

/-- O47. R136, R137: at the end of its own frame the module reads the two slots separately: the acknowledge slot sets the unheard
streak and ALONE, the reject slot the reject count. ALONE_SET is the fifth unheard frame as its own command (log entry 4). -/
def Obligations.OwnFrameEndReadsBothSlots : Prop :=
  ∀ (acknowledged rejected : Bool) (s : State), s.sup.held = false →
    (s.link.sending ≠ none →
      exec (.ownFrameEnd acknowledged rejected) s =
        .next
          { s with
            link :=
              { s.link with
                sending := none
                ackDriven := false
                rejectDriven := false
                unheard :=
                  if acknowledged then 0 else if s.link.unheard < 255 then s.link.unheard + 1 else 255
                alone := if acknowledged then false else s.link.alone || decide (s.link.unheard = 4)
                interval := if acknowledged = false ∧ s.link.unheard = 4 then 0 else s.link.interval
                rejects :=
                  if rejected then (if s.link.rejects < 255 then s.link.rejects + 1 else 255) else s.link.rejects } }) ∧
    (s.link.unheard = 4 →
      exec .aloneSet s = .next { s with link := { s.link with unheard := 5, alone := true, interval := 0 } })

/-- O48. R138: a frame with a filler violation drives neither slot and leaves the receiver waiting for idle, one with a wrong check
drives the reject slot, and neither changes anything else; bits that make a whole frame are that frame. In SILENT, and while the receiver
waits for idle, no frame drives a slot or has an effect. A frame broken off counts as a filler violation (log entry 13); that bits heard
while the receiver waits end an idle line is the model's (log entry 21). -/
def Obligations.RejectedFrameDrivesItsSlot : Prop :=
  ∀ (bits : List Bool) (s : State), s.sup.held = false →
    (s.sup.state ≠ .silent → s.link.awaitsIdle = false →
      (receiveBits bits = .violation →
        exec (.frameReject bits) s =
          .next
            { s with
              link := { s.link with lineIdle := false, ackDriven := false, rejectDriven := false, awaitsIdle := true } }) ∧
        (receiveBits bits = .wrongCheck →
          exec (.frameReject bits) s =
            .next { s with link := { s.link with lineIdle := false, ackDriven := false, rejectDriven := true } }) ∧
        ∀ kind source payload, receiveBits bits = .whole kind source payload →
          exec (.frameReject bits) s =
            exec
              (if kind = 1 then .panelState source payload
              else if kind = 2 then .panSetting source payload
              else if kind = 3 then .fragment source payload
              else if kind = 4 then .moduleStatus source payload
              else if kind = 5 then .panNotice source payload
              else .ignoredKindFrame kind source)
              s) ∧
    (s.sup.state = .silent ∨ s.link.awaitsIdle = true →
      ∀ (source : LinkPos) (payload : List Byte) (kind : BitVec 4) (c : Instr),
        c = .frameReject bits ∨ c = .panelState source payload ∨ c = .panSetting source payload ∨ c = .fragment source payload ∨
            c = .moduleStatus source payload ∨ c = .panNotice source payload ∨ c = .ignoredKindFrame kind source ∨
            c = .positionClash →
          exec c s = .next { s with link := { s.link with lineIdle := false, ackDriven := false, rejectDriven := false } })

/-- O49. R46 to R51, R58: a well-formed setting of a tag is taken in RUN: a cached tag is refreshed in place as the newest, its programs
restarted at a new revision, which has the home request STEP 0 in EACH_STEP, and reconciled at an equal one, which has it request DONE
where that ends a program; a new tag is appended while there is room, in a full cache in place of the least recently refreshed
entry whose tag the module does not hold, and is dropped and counted where it holds them all. Tag 0 is counted as malformed. Outside RUN
the setting is discarded. -/
def Obligations.SettingIsRefreshedOrAppended : Prop :=
  ∀ (source : LinkPos) (payload : List Byte) (st : Setting) (heard : Link) (s : State), s.sup.held = false →
    s.sup.state ≠ .silent → s.link.awaitsIdle = false → 8 ≤ source.val → decodeSetting payload = some st →
    heard = { s.link with lineIdle := false, ackDriven := true, rejectDriven := false } →
    (s.sup.state ≠ .run → exec (.panSetting source payload) s = .next { s with link := heard }) ∧
    (s.sup.state = .run → st.tag = none →
      exec (.panSetting source payload) s =
        .next { s with link := { heard with malformed := if heard.malformed < 255 then heard.malformed + 1 else 255 } }) ∧
    ∀ tag entry, s.sup.state = .run → st.tag = some tag →
      entry = { tag := tag, revision := st.revision, mode := st.mode, steps := st.steps, age := 0 } →
      (cacheEntry s.cache tag = none →
        (s.cache.length < 8 →
          exec (.panSetting source payload) s = .next { s with link := heard, cache := s.cache ++ [entry] }) ∧
        (8 ≤ s.cache.length →
          ((∀ x ∈ s.cache, (∃ f ∈ s.tracker.pans, f.tag = x.tag) ∨ ∃ l ∈ s.tracker.lifted, l.tag = x.tag) →
            exec (.panSetting source payload) s =
              .next { s with link := { heard with dropped := if heard.dropped < 255 then heard.dropped + 1 else 255 } }) ∧
          ∀ before x after, s.cache = before ++ x :: after →
            (∀ y ∈ before, (∃ f ∈ s.tracker.pans, f.tag = y.tag) ∨ ∃ l ∈ s.tracker.lifted, l.tag = y.tag) →
            (∀ f ∈ s.tracker.pans, f.tag ≠ x.tag) → (∀ l ∈ s.tracker.lifted, l.tag ≠ x.tag) →
            exec (.panSetting source payload) s = .next { s with link := heard, cache := before ++ after ++ [entry] })) ∧
      ∀ old, cacheEntry s.cache tag = some old →
        ∃ t, exec (.panSetting source payload) s = .next t ∧
          t.cache = (s.cache.filter fun x => !decide (x.tag = tag)) ++ [entry] ∧
          (let refreshed : Program → Program := fun p =>
              if old.revision = st.revision then
                (if p.done = true ∨ st.steps.length ≤ p.step then
                  { p with step := st.steps.length - 1, remaining := 0, loop := none, done := true }
                else { p with remaining := min p.remaining (stepAt st.steps p.step).duration })
              else { revision := st.revision, step := 0, remaining := (stepAt st.steps 0).duration, loop := none, done := false }
          t.tracker.pans =
              s.tracker.pans.map (fun f => if f.tag = tag then { f with program := f.program.map refreshed } else f) ∧
            t.tracker.lifted =
              s.tracker.lifted.map (fun l => if l.tag = tag then { l with program := l.program.map refreshed } else l)) ∧
          t.tracker.serial = s.tracker.serial ∧
          (∀ i, t.drive.density.get i = if t.targeted i = true then s.drive.density.get i else 0) ∧
          s.CutOf t (s.untargeted t) (fun _ => false) ∧
          t.coils = s.coils.mapIx (fun i c => { c with heating := (t.coils.get i).heating }) ∧
          t.sense = { s.sense with acc := t.sense.acc } ∧
          t =
            { s with
              cache := t.cache, tracker := t.tracker, coils := t.coils, drive := t.drive, sense := t.sense
              link :=
                match s.tracker.pans.find? fun f => decide (f.tag = tag) with
                | none => heard
                | some f =>
                  match f.program with
                  | none => heard
                  | some p =>
                    if f.home = false then heard
                    else if old.revision = st.revision then
                      (if p.done = false ∧ st.steps.length ≤ p.step then
                        heard.notify s.setup.noticeLevel tag .done (st.steps.length - 1)
                      else heard)
                    else if st.mode = .eachStep then heard.notify s.setup.noticeLevel tag .step 0
                    else heard }

/-- O50. R41, R42, R60, R147: a well-formed FRAGMENT of another module. A closed one removes its peer entry; in RUN that confirms the
lifted entries of its tag when an entry was there and no other report of the tag is left. One with area is stored as the newest entry at
age 0, the oldest leaving a full table with the same test; in RUN the lifted entry of its tag is removed, and a fragment of its tag that
is not home takes the program the home publishes. A confirmed entry hands the notice of its cause to the queue, a removed one that was
confirmed RETURNED, each where this module was home. Nothing else changes. That the test of an eviction runs after the store is the
model's order (log entry 20), and so is the order of the notices of several entries (log entry 34). -/
def Obligations.FragmentIsStoredOrCloses : Prop :=
  ∀ (source : LinkPos) (q : Position) (payload : List Byte) (heard : Link) (s : State), s.sup.held = false →
    s.sup.state ≠ .silent → s.link.awaitsIdle = false → q.val = source.val → q ≠ s.sup.position →
    heard = { s.link with lineIdle := false, ackDriven := true, rejectDriven := false } →
    (∀ tag, decodeFragment payload = some (.closed tag) →
      ∃ t, exec (.fragment source payload) s = .next t ∧
        t.link.peers = s.link.peers.filter (fun e => !(e.source = q ∧ e.report.tag = tag)) ∧
        t.tracker =
          { s.tracker with
            lifted :=
              if s.sup.state = .run ∧ (∃ e ∈ s.link.peers, e.source = q ∧ e.report.tag = tag) ∧ t.Unreported tag then
                s.tracker.lifted.map fun e => if e.tag = tag then { e with confirmed := true } else e
              else s.tracker.lifted } ∧
        t =
          { s with
            tracker := t.tracker
            link :=
              if s.sup.state = .run ∧ (∃ e ∈ s.link.peers, e.source = q ∧ e.report.tag = tag) ∧ t.Unreported tag then
                s.causesHanded tag { heard with peers := t.link.peers }
              else { heard with peers := t.link.peers } }) ∧
    (∀ r others, decodeFragment payload = some (.report r) →
      others = (s.link.peers.filter fun e => !(e.source = q ∧ e.report.tag = r.tag)) →
      ∃ t, exec (.fragment source payload) s = .next t ∧
        t.link.peers =
          (if others.length < 16 then others else others.drop 1) ++ [{ source := q, report := r, age := 0 }] ∧
        (s.sup.state ≠ .run → t = { s with link := { heard with peers := t.link.peers } }) ∧
        (s.sup.state = .run →
          t.tracker.serial = s.tracker.serial ∧
          t.tracker.lifted =
            (match if others.length < 16 then none else others.head? with
            | none => s.tracker.lifted
            | some x =>
              if t.Unreported x.report.tag then
                s.tracker.lifted.map fun (e : LiftedEntry) => if e.tag = x.report.tag then { e with confirmed := true } else e
              else s.tracker.lifted).filter (fun e => !decide (e.tag = r.tag)) ∧
          t.tracker.pans =
            s.tracker.pans.map (fun f =>
              { f with
                program :=
                  match f.program, r.published, cacheEntry s.cache f.tag with
                  | some own, some p, some e =>
                    if f.tag = r.tag ∧ f.home = false ∧ r.home = true ∧ own.revision = p.program.revision then
                      some
                        (if p.program.done = true ∨ e.steps.length ≤ p.program.step then
                          { p.program with step := e.steps.length - 1, remaining := 0, loop := none, done := true }
                        else { p.program with remaining := min p.program.remaining (stepAt e.steps p.program.step).duration })
                    else some own
                  | _, _, _ => f.program }) ∧
          s.CutOf t (s.untargeted t) (fun _ => false) ∧
          t.coils = s.coils.mapIx (fun i c => { c with heating := (t.coils.get i).heating }) ∧
          t.sense = { s.sense with acc := t.sense.acc } ∧
          t.link =
            Link.notifyEach s.setup.noticeLevel (fun _ => .returned)
              (s.tracker.lifted.filter fun e => decide (e.tag = r.tag) && e.confirmed && e.wasHome)
              (match if others.length < 16 then none else others.head? with
              | none => { heard with peers := t.link.peers }
              | some x =>
                if t.Unreported x.report.tag then s.causesHanded x.report.tag { heard with peers := t.link.peers }
                else { heard with peers := t.link.peers })) ∧
        t =
          { s with
            tracker := t.tracker, coils := t.coils, drive := t.drive, sense := t.sense
            link := { heard with peers := t.link.peers, queue := t.link.queue, dropped := t.link.dropped } })

/-- O51. R146: a well-formed MODULE_STATUS of another module is stored in its source's roster entry at age 0. -/
def Obligations.StatusIsStoredInTheRoster : Prop :=
  ∀ (source : LinkPos) (q : Position) (payload : List Byte) (st : Status) (s : State), s.sup.held = false →
    s.sup.state ≠ .silent → s.link.awaitsIdle = false → q.val = source.val → q ≠ s.sup.position →
    decodeStatus payload = some st →
    exec (.moduleStatus source payload) s =
      .next
        { s with
          link :=
            { s.link with
              lineIdle := false, ackDriven := true, rejectDriven := false
              roster := s.link.roster.set q { content := some st, age := 0 } } }

/-- O52. R138, R139: a PAN_NOTICE and a frame of kind 0 or 6 to 15 are acknowledged and change nothing further. -/
def Obligations.NoticesAndIgnoredKindsAreAcknowledged : Prop :=
  ∀ (source : LinkPos) (payload : List Byte) (kind : BitVec 4) (s : State), s.sup.held = false → s.sup.state ≠ .silent →
    s.link.awaitsIdle = false → source.val ≠ s.sup.position.val → kind.toNat = 0 ∨ 6 ≤ kind.toNat →
    exec (.panNotice source payload) s =
        .next { s with link := { s.link with lineIdle := false, ackDriven := true, rejectDriven := false } } ∧
      exec (.ignoredKindFrame kind source) s =
        .next { s with link := { s.link with lineIdle := false, ackDriven := true, rejectDriven := false } }

/-- O53. R139, R152 to R154, R156, R158: a frame of kind 1 to 4 from the right range of sources that fails its decoding is acknowledged,
dropped whole and counted once; from the wrong range it is not even counted. Which payloads fail is said kind by kind. -/
def Obligations.MalformedFramesAreOnlyCounted : Prop :=
  ∀ (source : LinkPos) (payload : List Byte) (c : Instr) (s : State), s.sup.held = false → s.sup.state ≠ .silent →
    s.link.awaitsIdle = false → source.val ≠ s.sup.position.val →
    ((8 ≤ source.val ∧
          (c = .panelState source payload ∧ decodePanelState payload = none ∨
            c = .panSetting source payload ∧ decodeSetting payload = none) ∨
        source.val < 8 ∧
          (c = .fragment source payload ∧ decodeFragment payload = none ∨
            c = .moduleStatus source payload ∧ decodeStatus payload = none)) →
      exec c s =
        .next
          { s with
            link :=
              { s.link with
                lineIdle := false, ackDriven := true, rejectDriven := false
                malformed := if s.link.malformed < 255 then s.link.malformed + 1 else 255 } }) ∧
    ((source.val < 8 ∧ (c = .panelState source payload ∨ c = .panSetting source payload) ∨
        8 ≤ source.val ∧ (c = .fragment source payload ∨ c = .moduleStatus source payload)) →
      exec c s =
        .next { s with link := { s.link with lineIdle := false, ackDriven := true, rejectDriven := false } }) ∧
    (let b := fun (a : Nat) => (payload.getD a 0).toNat
    let w := fun (a : Nat) => b a * 256 + b (a + 1)
    (decodePanelState payload = none ↔ payload ≠ [1] ∧ payload ≠ [2]) ∧
      (decodeSetting payload = none ↔
        b 3 % 8 = 0 ∨ b 3 % 8 = 7 ∨ payload.length ≠ 4 + 4 * (b 3 % 8) ∨ w 0 % 32768 ≠ 0 ∧ w 0 % 4096 = 0) ∧
      (decodeFragment payload = none ↔
        payload.length ≠ 20 ∨ w 0 % 4096 = 0 ∨ 1 ≤ w 2 ∧ w 2 ≤ 15 ∨ 512 < w 2 ∨
          16 ≤ w 2 ∧ w 2 ≤ 512 ∧
            ((∃ i : CoilIx, 1 ≤ b (4 + i.val) ∧ b (4 + i.val) ≤ 15 ∨ 64 < b (4 + i.val)) ∨
              b 4 + b 5 + b 6 + b 7 + b 8 + b 9 + b 10 + b 11 ≠ w 2 ∨
              128 ≤ b 19 ∧ (5 < b 13 ∨ 5999 < w 14 ∨ b 19 / 8 % 2 = 0 ∧ 15 < b 16 ∨ 740 < w 17))) ∧
      (decodeStatus payload = none ↔
        payload.length ≠ 20 ∨ b 0 / 32 = 0 ∨ 4 < b 0 / 32 ∨ b 0 / 4 % 4 = 0 ∨ 2400 < w 1 ∨ 2400 < w 5 ∨ 740 < w 3 ∨ w 1 < w 3 ∨
          w 5 < w 1 ∨ b 7 < 41 ∨ 140 < b 7 ∨ b 9 < 41 ∨ 140 < b 9 ∨ 4 < b 8 ∨ 8 < b 11 / 16 ∨ 8 < b 11 % 16 ∨
          ¬ (b 11 / 16 = 0 ↔ b 11 % 16 = 0)))

/-! ### What is sent is heard; the invariants that every command keeps -/

/-- O54. R131, R132, R138: a frame as a module puts it on the line, with its filler bits and its check, is heard whole, with
its kind, source and payload. Its last filler bit may stand after the check (log entry 13). -/
def Obligations.SentFrameIsHeardWhole : Prop :=
  ∀ (level : Nat) (kind : BitVec 4) (source : LinkPos) (payload : List Byte), level ≤ 3 → payload.length ≤ 63 →
    receiveBits (wireBits level kind.toNat source.val payload) = .whole kind source payload

/-- O55. R151, R155 to R158: a FRAGMENT and a MODULE_STATUS within the ranges of Tables 9-5 and 9-6 are decoded as they were
encoded, and a closed FRAGMENT as closed. -/
def Obligations.ReportsDecodeAsSent : Prop :=
  (∀ r : Report, 1 ≤ r.tag.serial.val → 16 ≤ r.area → r.area ≤ 512 → r.edge.sum = r.area →
    (∀ i, r.edge.get i = 0 ∨ 16 ≤ r.edge.get i ∧ r.edge.get i ≤ 64) →
    (∀ p, r.published = some p →
      p.program.step ≤ 5 ∧ p.program.remaining ≤ 5999 ∧ p.target ≤ 740 ∧ ∀ n, p.program.loop = some n → n ≤ 15) →
    decodeFragment (encodeReport r) = some (.report r)) ∧
  (∀ t : Tag, 1 ≤ t.serial.val → decodeFragment (encodeClosed t) = some (.closed t)) ∧
  (∀ st : Status, 1 ≤ st.stateCode → st.stateCode ≤ 4 → 1 ≤ st.causeCode → st.causeCode ≤ 3 → st.maximum ≤ 2400 →
    st.demand ≤ st.maximum → st.grant ≤ st.demand → st.grant ≤ 740 → inBand st.frequency → inBand st.chainFloor →
    st.faultTop ≤ 8 → st.faultCount ≤ 8 → (st.faultTop = 0 ↔ st.faultCount = 0) → st.byte12 ≤ 255 → st.losses ≤ 255 →
    st.rejects ≤ 255 → st.unheard ≤ 255 → st.dropped ≤ 255 → st.malformed ≤ 255 → st.shortfall ≤ 4095 →
    decodeStatus (encodeStatus st) = some st)

/-- O56. Every command keeps the module safe: start-up, sweep and drive as `State.Safe` says. -/
def Obligations.EveryCommandKeepsDriveSafe : Prop :=
  ∀ (c : Instr) (s t : State), s.Safe → exec c s = .next t → t.Safe

/-- O57. Every command keeps the bounded tables within their sizes and their keys apart, as `State.TablesSound` says. -/
def Obligations.EveryCommandKeepsTablesSound : Prop :=
  ∀ (c : Instr) (s t : State), s.TablesSound → exec c s = .next t → t.TablesSound

/-- O58. R53: every command keeps every program state within a cached setting of its tag, as `State.ProgramsSound` says. -/
def Obligations.EveryCommandKeepsProgramsSound : Prop :=
  ∀ (c : Instr) (s t : State), s.ProgramsSound → exec c s = .next t → t.ProgramsSound

/-- O59. R98: in a safe state every command keeps the frequency within 41..140 and at or above the floor of every heated coil, as
`State.FrequencySound` says. -/
def Obligations.EveryCommandKeepsFrequencySound : Prop :=
  ∀ (c : Instr) (s t : State), s.Safe → s.FrequencySound → exec c s = .next t → t.FrequencySound

/-- O60. The four invariants hold after reset. Where the spec gives no reset value the model's stands (log entry 7). -/
def Obligations.ResetMeetsEveryInvariant : Prop :=
  State.reset.Safe ∧ State.reset.TablesSound ∧ State.reset.ProgramsSound ∧ State.reset.FrequencySound
end

