-- ==== Sys2Proof/Laws/Eight.lean ====
section
/-! SUPPORT. The eight-fold tuple: reading an entry back from each way of building one, so that no proof unfolds a tuple. -/

namespace Sys2Proof

open Sys2Proof

/-- Two tuples with the same entries are the same. -/
theorem Eight.ext_get {α : Type} {a b : Eight α} (h : ∀ i, a.get i = b.get i) : a = b := by
  cases a
  cases b
  have h0 := h 0
  have h1 := h 1
  have h2 := h 2
  have h3 := h 3
  have h4 := h 4
  have h5 := h 5
  have h6 := h 6
  have h7 := h 7
  simp_all [Eight.get]

@[simp] theorem Eight.get_ofFn {α : Type} (f : Fin 8 → α) (i : Fin 8) : (Eight.ofFn f).get i = f i := by
  fin_cases i <;> rfl

@[simp] theorem Eight.get_fill {α : Type} (x : α) (i : Fin 8) : (Eight.fill x).get i = x := by
  fin_cases i <;> rfl

@[simp] theorem Eight.get_mapIx {α β : Type} (f : Fin 8 → α → β) (a : Eight α) (i : Fin 8) :
    (a.mapIx f).get i = f i (a.get i) := Eight.get_ofFn _ i

@[simp] theorem Eight.get_map {α β : Type} (f : α → β) (a : Eight α) (i : Fin 8) : (a.map f).get i = f (a.get i) :=
  Eight.get_ofFn _ i

theorem Eight.get_update {α : Type} (a : Eight α) (i j : Fin 8) (f : α → α) :
    (a.update i f).get j = if j = i then f (a.get j) else a.get j := Eight.get_ofFn _ j

@[simp] theorem Eight.get_update_same {α : Type} (a : Eight α) (i : Fin 8) (f : α → α) :
    (a.update i f).get i = f (a.get i) := by simp [Eight.get_update]

@[simp] theorem Eight.get_update_other {α : Type} (a : Eight α) {i j : Fin 8} (f : α → α) (h : j ≠ i) :
    (a.update i f).get j = a.get j := by simp [Eight.get_update, h]

theorem Eight.get_set {α : Type} (a : Eight α) (i j : Fin 8) (x : α) :
    (a.set i x).get j = if j = i then x else a.get j := Eight.get_update a i j _

@[simp] theorem Eight.get_set_same {α : Type} (a : Eight α) (i : Fin 8) (x : α) : (a.set i x).get i = x := by
  simp [Eight.get_set]

@[simp] theorem Eight.get_set_other {α : Type} (a : Eight α) {i j : Fin 8} (x : α) (h : j ≠ i) :
    (a.set i x).get j = a.get j := by simp [Eight.get_set, h]

/-- Building a tuple from its own entries gives it back. -/
@[simp] theorem Eight.ofFn_get {α : Type} (a : Eight α) : Eight.ofFn a.get = a := Eight.ext_get fun i => by simp

/-- A map that changes no entry changes nothing. -/
theorem Eight.mapIx_id {α : Type} {f : Fin 8 → α → α} {a : Eight α} (h : ∀ i, f i (a.get i) = a.get i) : a.mapIx f = a :=
  Eight.ext_get fun i => by simp [h]

/-- A map that gives every entry one value fills the tuple. -/
theorem Eight.mapIx_const {α β : Type} (a : Eight α) (x : β) : (a.mapIx fun _ _ => x) = Eight.fill x :=
  Eight.ext_get fun i => by simp

/-- The entries in a list are the entries by index. -/
theorem Eight.mem_toList {α : Type} (a : Eight α) (x : α) : x ∈ a.toList ↔ ∃ i, a.get i = x := by
  constructor
  · intro h
    simp only [Eight.toList, List.mem_cons, List.not_mem_nil, or_false] at h
    rcases h with h | h | h | h | h | h | h | h
    · exact ⟨0, h.symm⟩
    · exact ⟨1, h.symm⟩
    · exact ⟨2, h.symm⟩
    · exact ⟨3, h.symm⟩
    · exact ⟨4, h.symm⟩
    · exact ⟨5, h.symm⟩
    · exact ⟨6, h.symm⟩
    · exact ⟨7, h.symm⟩
  · rintro ⟨i, rfl⟩
    fin_cases i <;> simp [Eight.toList, Eight.get]

/-- A sum entry by entry. -/
theorem Eight.sum_eq (a : Eight Nat) :
    a.sum = a.get 0 + a.get 1 + a.get 2 + a.get 3 + a.get 4 + a.get 5 + a.get 6 + a.get 7 := by
  simp [Eight.sum, Eight.toList, Eight.get]
  omega

/-- A sum grows with its entries. -/
theorem Eight.sum_le_sum {a b : Eight Nat} (h : ∀ i, a.get i ≤ b.get i) : a.sum ≤ b.sum := by
  have h0 := h 0
  have h1 := h 1
  have h2 := h 2
  have h3 := h 3
  have h4 := h 4
  have h5 := h 5
  have h6 := h 6
  have h7 := h 7
  simp only [Eight.sum_eq]
  omega

end Sys2Proof
end

