-- ==== Sys2Proof/Laws/State.lean ====
section
/-! SUPPORT. What the shared operations leave alone, one lemma per field per operation, and what the plain ones set, so that no
later proof unfolds a record update. -/

namespace Sys2Proof.Machine

open Sys2Proof

/-! R96, R100 to R103: a cut reaches the drive, the coils and the accumulators only. -/

@[simp] theorem State.cutSet_timebase (cut counted : CoilIx → Bool) (s : State) : (s.cutSet cut counted).timebase = s.timebase := rfl
@[simp] theorem State.cutSet_probe (cut counted : CoilIx → Bool) (s : State) : (s.cutSet cut counted).probe = s.probe := rfl
@[simp] theorem State.cutSet_tracker (cut counted : CoilIx → Bool) (s : State) : (s.cutSet cut counted).tracker = s.tracker := rfl
@[simp] theorem State.cutSet_cache (cut counted : CoilIx → Bool) (s : State) : (s.cutSet cut counted).cache = s.cache := rfl
@[simp] theorem State.cutSet_alloc (cut counted : CoilIx → Bool) (s : State) : (s.cutSet cut counted).alloc = s.alloc := rfl
@[simp] theorem State.cutSet_link (cut counted : CoilIx → Bool) (s : State) : (s.cutSet cut counted).link = s.link := rfl
@[simp] theorem State.cutSet_sup (cut counted : CoilIx → Bool) (s : State) : (s.cutSet cut counted).sup = s.sup := rfl
@[simp] theorem State.cutSet_image (cut counted : CoilIx → Bool) (s : State) : (s.cutSet cut counted).image = s.image := rfl
@[simp] theorem State.cutSet_setupGood (cut counted : CoilIx → Bool) (s : State) : (s.cutSet cut counted).setupGood = s.setupGood := rfl
@[simp] theorem State.cutSet_setup (cut counted : CoilIx → Bool) (s : State) : (s.cutSet cut counted).setup = s.setup := rfl
@[simp] theorem State.cutSet_freeUsed (cut counted : CoilIx → Bool) (s : State) : (s.cutSet cut counted).freeUsed = s.freeUsed := rfl
@[simp] theorem State.cutSet_pending (cut counted : CoilIx → Bool) (s : State) : (s.cutSet cut counted).pending = s.pending := rfl

@[simp] theorem State.cutAll_timebase (s : State) : (s.cutAll).timebase = s.timebase := rfl
@[simp] theorem State.cutAll_probe (s : State) : (s.cutAll).probe = s.probe := rfl
@[simp] theorem State.cutAll_tracker (s : State) : (s.cutAll).tracker = s.tracker := rfl
@[simp] theorem State.cutAll_cache (s : State) : (s.cutAll).cache = s.cache := rfl
@[simp] theorem State.cutAll_alloc (s : State) : (s.cutAll).alloc = s.alloc := rfl
@[simp] theorem State.cutAll_link (s : State) : (s.cutAll).link = s.link := rfl
@[simp] theorem State.cutAll_sup (s : State) : (s.cutAll).sup = s.sup := rfl
@[simp] theorem State.cutAll_image (s : State) : (s.cutAll).image = s.image := rfl
@[simp] theorem State.cutAll_setupGood (s : State) : (s.cutAll).setupGood = s.setupGood := rfl
@[simp] theorem State.cutAll_setup (s : State) : (s.cutAll).setup = s.setup := rfl
@[simp] theorem State.cutAll_freeUsed (s : State) : (s.cutAll).freeUsed = s.freeUsed := rfl
@[simp] theorem State.cutAll_pending (s : State) : (s.cutAll).pending = s.pending := rfl

/-! R101. -/

@[simp] theorem State.withdrawByState_timebase (s : State) : (s.withdrawByState).timebase = s.timebase := rfl
@[simp] theorem State.withdrawByState_probe (s : State) : (s.withdrawByState).probe = s.probe := rfl
@[simp] theorem State.withdrawByState_tracker (s : State) : (s.withdrawByState).tracker = s.tracker := rfl
@[simp] theorem State.withdrawByState_cache (s : State) : (s.withdrawByState).cache = s.cache := rfl
@[simp] theorem State.withdrawByState_alloc (s : State) : (s.withdrawByState).alloc = s.alloc := rfl
@[simp] theorem State.withdrawByState_link (s : State) : (s.withdrawByState).link = s.link := rfl
@[simp] theorem State.withdrawByState_sup (s : State) : (s.withdrawByState).sup = s.sup := rfl
@[simp] theorem State.withdrawByState_image (s : State) : (s.withdrawByState).image = s.image := rfl
@[simp] theorem State.withdrawByState_setupGood (s : State) : (s.withdrawByState).setupGood = s.setupGood := rfl
@[simp] theorem State.withdrawByState_setup (s : State) : (s.withdrawByState).setup = s.setup := rfl
@[simp] theorem State.withdrawByState_freeUsed (s : State) : (s.withdrawByState).freeUsed = s.freeUsed := rfl
@[simp] theorem State.withdrawByState_pending (s : State) : (s.withdrawByState).pending = s.pending := rfl

/-! R101. -/

@[simp] theorem State.withdrawUntargeted_timebase (s : State) : (s.withdrawUntargeted).timebase = s.timebase := rfl
@[simp] theorem State.withdrawUntargeted_probe (s : State) : (s.withdrawUntargeted).probe = s.probe := rfl
@[simp] theorem State.withdrawUntargeted_tracker (s : State) : (s.withdrawUntargeted).tracker = s.tracker := rfl
@[simp] theorem State.withdrawUntargeted_cache (s : State) : (s.withdrawUntargeted).cache = s.cache := rfl
@[simp] theorem State.withdrawUntargeted_alloc (s : State) : (s.withdrawUntargeted).alloc = s.alloc := rfl
@[simp] theorem State.withdrawUntargeted_link (s : State) : (s.withdrawUntargeted).link = s.link := rfl
@[simp] theorem State.withdrawUntargeted_sup (s : State) : (s.withdrawUntargeted).sup = s.sup := rfl
@[simp] theorem State.withdrawUntargeted_image (s : State) : (s.withdrawUntargeted).image = s.image := rfl
@[simp] theorem State.withdrawUntargeted_setupGood (s : State) : (s.withdrawUntargeted).setupGood = s.setupGood := rfl
@[simp] theorem State.withdrawUntargeted_setup (s : State) : (s.withdrawUntargeted).setup = s.setup := rfl
@[simp] theorem State.withdrawUntargeted_freeUsed (s : State) : (s.withdrawUntargeted).freeUsed = s.freeUsed := rfl
@[simp] theorem State.withdrawUntargeted_pending (s : State) : (s.withdrawUntargeted).pending = s.pending := rfl

/-! R6, R7. -/

@[simp] theorem State.abortSweep_timebase (s : State) : (s.abortSweep).timebase = s.timebase := rfl
@[simp] theorem State.abortSweep_coils (s : State) : (s.abortSweep).coils = s.coils := rfl
@[simp] theorem State.abortSweep_tracker (s : State) : (s.abortSweep).tracker = s.tracker := rfl
@[simp] theorem State.abortSweep_cache (s : State) : (s.abortSweep).cache = s.cache := rfl
@[simp] theorem State.abortSweep_alloc (s : State) : (s.abortSweep).alloc = s.alloc := rfl
@[simp] theorem State.abortSweep_drive (s : State) : (s.abortSweep).drive = s.drive := rfl
@[simp] theorem State.abortSweep_sense (s : State) : (s.abortSweep).sense = s.sense := rfl
@[simp] theorem State.abortSweep_link (s : State) : (s.abortSweep).link = s.link := rfl
@[simp] theorem State.abortSweep_sup (s : State) : (s.abortSweep).sup = s.sup := rfl
@[simp] theorem State.abortSweep_image (s : State) : (s.abortSweep).image = s.image := rfl
@[simp] theorem State.abortSweep_setupGood (s : State) : (s.abortSweep).setupGood = s.setupGood := rfl
@[simp] theorem State.abortSweep_setup (s : State) : (s.abortSweep).setup = s.setup := rfl
@[simp] theorem State.abortSweep_freeUsed (s : State) : (s.abortSweep).freeUsed = s.freeUsed := rfl
@[simp] theorem State.abortSweep_pending (s : State) : (s.abortSweep).pending = s.pending := rfl

/-! R63. -/

@[simp] theorem State.dropPrograms_timebase (s : State) : (s.dropPrograms).timebase = s.timebase := rfl
@[simp] theorem State.dropPrograms_probe (s : State) : (s.dropPrograms).probe = s.probe := rfl
@[simp] theorem State.dropPrograms_coils (s : State) : (s.dropPrograms).coils = s.coils := rfl
@[simp] theorem State.dropPrograms_alloc (s : State) : (s.dropPrograms).alloc = s.alloc := rfl
@[simp] theorem State.dropPrograms_drive (s : State) : (s.dropPrograms).drive = s.drive := rfl
@[simp] theorem State.dropPrograms_sense (s : State) : (s.dropPrograms).sense = s.sense := rfl
@[simp] theorem State.dropPrograms_link (s : State) : (s.dropPrograms).link = s.link := rfl
@[simp] theorem State.dropPrograms_sup (s : State) : (s.dropPrograms).sup = s.sup := rfl
@[simp] theorem State.dropPrograms_image (s : State) : (s.dropPrograms).image = s.image := rfl
@[simp] theorem State.dropPrograms_setupGood (s : State) : (s.dropPrograms).setupGood = s.setupGood := rfl
@[simp] theorem State.dropPrograms_setup (s : State) : (s.dropPrograms).setup = s.setup := rfl
@[simp] theorem State.dropPrograms_freeUsed (s : State) : (s.dropPrograms).freeUsed = s.freeUsed := rfl
@[simp] theorem State.dropPrograms_pending (s : State) : (s.dropPrograms).pending = s.pending := rfl

/-! R66. -/

@[simp] theorem State.zeroFigures_timebase (s : State) : (s.zeroFigures).timebase = s.timebase := rfl
@[simp] theorem State.zeroFigures_probe (s : State) : (s.zeroFigures).probe = s.probe := rfl
@[simp] theorem State.zeroFigures_coils (s : State) : (s.zeroFigures).coils = s.coils := rfl
@[simp] theorem State.zeroFigures_cache (s : State) : (s.zeroFigures).cache = s.cache := rfl
@[simp] theorem State.zeroFigures_drive (s : State) : (s.zeroFigures).drive = s.drive := rfl
@[simp] theorem State.zeroFigures_sense (s : State) : (s.zeroFigures).sense = s.sense := rfl
@[simp] theorem State.zeroFigures_link (s : State) : (s.zeroFigures).link = s.link := rfl
@[simp] theorem State.zeroFigures_sup (s : State) : (s.zeroFigures).sup = s.sup := rfl
@[simp] theorem State.zeroFigures_image (s : State) : (s.zeroFigures).image = s.image := rfl
@[simp] theorem State.zeroFigures_setupGood (s : State) : (s.zeroFigures).setupGood = s.setupGood := rfl
@[simp] theorem State.zeroFigures_setup (s : State) : (s.zeroFigures).setup = s.setup := rfl
@[simp] theorem State.zeroFigures_freeUsed (s : State) : (s.zeroFigures).freeUsed = s.freeUsed := rfl
@[simp] theorem State.zeroFigures_pending (s : State) : (s.zeroFigures).pending = s.pending := rfl

/-! R150. -/

@[simp] theorem State.replaceStatus_timebase (s : State) : (s.replaceStatus).timebase = s.timebase := rfl
@[simp] theorem State.replaceStatus_probe (s : State) : (s.replaceStatus).probe = s.probe := rfl
@[simp] theorem State.replaceStatus_coils (s : State) : (s.replaceStatus).coils = s.coils := rfl
@[simp] theorem State.replaceStatus_tracker (s : State) : (s.replaceStatus).tracker = s.tracker := rfl
@[simp] theorem State.replaceStatus_cache (s : State) : (s.replaceStatus).cache = s.cache := rfl
@[simp] theorem State.replaceStatus_alloc (s : State) : (s.replaceStatus).alloc = s.alloc := rfl
@[simp] theorem State.replaceStatus_drive (s : State) : (s.replaceStatus).drive = s.drive := rfl
@[simp] theorem State.replaceStatus_sense (s : State) : (s.replaceStatus).sense = s.sense := rfl
@[simp] theorem State.replaceStatus_sup (s : State) : (s.replaceStatus).sup = s.sup := rfl
@[simp] theorem State.replaceStatus_image (s : State) : (s.replaceStatus).image = s.image := rfl
@[simp] theorem State.replaceStatus_setupGood (s : State) : (s.replaceStatus).setupGood = s.setupGood := rfl
@[simp] theorem State.replaceStatus_setup (s : State) : (s.replaceStatus).setup = s.setup := rfl
@[simp] theorem State.replaceStatus_freeUsed (s : State) : (s.replaceStatus).freeUsed = s.freeUsed := rfl
@[simp] theorem State.replaceStatus_pending (s : State) : (s.replaceStatus).pending = s.pending := rfl

/-! R138. -/

@[simp] theorem State.markSlots_timebase (ack reject : Bool) (s : State) : (s.markSlots ack reject).timebase = s.timebase := rfl
@[simp] theorem State.markSlots_probe (ack reject : Bool) (s : State) : (s.markSlots ack reject).probe = s.probe := rfl
@[simp] theorem State.markSlots_coils (ack reject : Bool) (s : State) : (s.markSlots ack reject).coils = s.coils := rfl
@[simp] theorem State.markSlots_tracker (ack reject : Bool) (s : State) : (s.markSlots ack reject).tracker = s.tracker := rfl
@[simp] theorem State.markSlots_cache (ack reject : Bool) (s : State) : (s.markSlots ack reject).cache = s.cache := rfl
@[simp] theorem State.markSlots_alloc (ack reject : Bool) (s : State) : (s.markSlots ack reject).alloc = s.alloc := rfl
@[simp] theorem State.markSlots_drive (ack reject : Bool) (s : State) : (s.markSlots ack reject).drive = s.drive := rfl
@[simp] theorem State.markSlots_sense (ack reject : Bool) (s : State) : (s.markSlots ack reject).sense = s.sense := rfl
@[simp] theorem State.markSlots_sup (ack reject : Bool) (s : State) : (s.markSlots ack reject).sup = s.sup := rfl
@[simp] theorem State.markSlots_image (ack reject : Bool) (s : State) : (s.markSlots ack reject).image = s.image := rfl
@[simp] theorem State.markSlots_setupGood (ack reject : Bool) (s : State) : (s.markSlots ack reject).setupGood = s.setupGood := rfl
@[simp] theorem State.markSlots_setup (ack reject : Bool) (s : State) : (s.markSlots ack reject).setup = s.setup := rfl
@[simp] theorem State.markSlots_freeUsed (ack reject : Bool) (s : State) : (s.markSlots ack reject).freeUsed = s.freeUsed := rfl
@[simp] theorem State.markSlots_pending (ack reject : Bool) (s : State) : (s.markSlots ack reject).pending = s.pending := rfl

/-! R99. -/

@[simp] theorem State.startDrive_timebase (s : State) : (s.startDrive).timebase = s.timebase := rfl
@[simp] theorem State.startDrive_probe (s : State) : (s.startDrive).probe = s.probe := rfl
@[simp] theorem State.startDrive_tracker (s : State) : (s.startDrive).tracker = s.tracker := rfl
@[simp] theorem State.startDrive_cache (s : State) : (s.startDrive).cache = s.cache := rfl
@[simp] theorem State.startDrive_alloc (s : State) : (s.startDrive).alloc = s.alloc := rfl
@[simp] theorem State.startDrive_link (s : State) : (s.startDrive).link = s.link := rfl
@[simp] theorem State.startDrive_sup (s : State) : (s.startDrive).sup = s.sup := rfl
@[simp] theorem State.startDrive_image (s : State) : (s.startDrive).image = s.image := rfl
@[simp] theorem State.startDrive_setupGood (s : State) : (s.startDrive).setupGood = s.setupGood := rfl
@[simp] theorem State.startDrive_setup (s : State) : (s.startDrive).setup = s.setup := rfl
@[simp] theorem State.startDrive_freeUsed (s : State) : (s.startDrive).freeUsed = s.freeUsed := rfl
@[simp] theorem State.startDrive_pending (s : State) : (s.startDrive).pending = s.pending := rfl

/-! What a cut sets, coil by coil (R96, R100 to R103, R118). -/

@[simp] theorem State.cutSet_density (cut counted : CoilIx → Bool) (s : State) (i : CoilIx) :
    (s.cutSet cut counted).drive.density.get i = if cut i then 0 else s.drive.density.get i := by simp [State.cutSet]

@[simp] theorem State.cutSet_driven (cut counted : CoilIx → Bool) (s : State) (i : CoilIx) :
    (s.cutSet cut counted).drive.driven.get i = (!cut i && s.drive.driven.get i) := by simp [State.cutSet]

@[simp] theorem State.cutSet_highGate (cut counted : CoilIx → Bool) (s : State) (i : CoilIx) :
    (s.cutSet cut counted).drive.highGate.get i = (!cut i && s.drive.highGate.get i) := by simp [State.cutSet]

@[simp] theorem State.cutSet_lowGate (cut counted : CoilIx → Bool) (s : State) (i : CoilIx) :
    (s.cutSet cut counted).drive.lowGate.get i = (!cut i && s.drive.lowGate.get i) := by simp [State.cutSet]

@[simp] theorem State.cutSet_coil (cut counted : CoilIx → Bool) (s : State) (i : CoilIx) :
    (s.cutSet cut counted).coils.get i = { s.coils.get i with heating := !cut i && (s.coils.get i).heating } := by
  simp [State.cutSet]

@[simp] theorem State.cutSet_acc (cut counted : CoilIx → Bool) (s : State) (i : CoilIx) :
    (s.cutSet cut counted).sense.acc.get i = if cut i then Accumulator.clear else s.sense.acc.get i := by
  simp [State.cutSet]

@[simp] theorem State.cutSet_frequency (cut counted : CoilIx → Bool) (s : State) :
    (s.cutSet cut counted).drive.frequency = s.drive.frequency := rfl

@[simp] theorem State.cutSet_pattern (cut counted : CoilIx → Bool) (s : State) :
    (s.cutSet cut counted).drive.pattern = s.drive.pattern := rfl

@[simp] theorem State.cutSet_role (cut counted : CoilIx → Bool) (s : State) :
    (s.cutSet cut counted).drive.role = s.drive.role := rfl

/-- A cut of no coil changes nothing but a cut loss above its top. -/
theorem State.cutSet_none (counted : CoilIx → Bool) (s : State) (h : s.drive.cutLoss ≤ Config.shortfallTop) :
    s.cutSet (fun _ => false) counted = s := by
  have hs : (Eight.ofFn fun i => if (false && counted i) = true then s.cutLossOf i else 0).sum = 0 := by
    simp [Eight.sum_eq]
  simp only [State.cutSet, hs, Nat.add_zero, Nat.min_eq_right h]
  simp [Eight.mapIx_id]

/-! What the start of a slot's drive sets (R99). -/

@[simp] theorem State.startDrive_driven (s : State) (i : CoilIx) : (s.startDrive).drive.driven.get i = s.drives i := by
  simp [State.startDrive]

@[simp] theorem State.startDrive_density (s : State) : s.startDrive.drive.density = s.drive.density := rfl

@[simp] theorem State.startDrive_frequency (s : State) : s.startDrive.drive.frequency = s.drive.frequency := rfl

@[simp] theorem State.startDrive_pattern (s : State) : s.startDrive.drive.pattern = s.drive.pattern := rfl

@[simp] theorem State.startDrive_heating (s : State) (i : CoilIx) :
    (s.startDrive.coils.get i).heating = (s.coils.get i).heating := by simp [State.startDrive]

end Sys2Proof.Machine
end

