-- ==== Sys2Proof/Laws/Ops.lean ====
section
/-! SUPPORT. What each shared operation can do, said once: the parts of the state it may change, the cases of the transmit queue,
and what the entries of the module states leave. -/

namespace Sys2Proof.Machine

open Sys2Proof

/-! ### Frames: an operation changes the parts it names and nothing else -/

theorem State.hand_frame (key : Key) (level : Nat) (payload : List Byte) (s : State) :
    s.hand key level payload = { s with link := (s.hand key level payload).link } := by
  unfold State.hand
  split <;> rfl

theorem State.notice_frame (tag : Option Tag) (kind : NoticeKind) (detail : Nat) (s : State) :
    s.notice tag kind detail = { s with link := (s.notice tag kind detail).link } := State.hand_frame _ _ _ s

theorem State.handReport_frame (r : Report) (s : State) : s.handReport r = { s with link := (s.handReport r).link } :=
  State.hand_frame _ _ _ s

theorem State.handClosed_frame (t : Tag) (s : State) : s.handClosed t = { s with link := (s.handClosed t).link } :=
  State.hand_frame _ _ _ s

/-- A fold of operations that change only the link changes only the link. -/
theorem State.foldl_link_frame {α : Type} (f : State → α → State)
    (h : ∀ s x, f s x = { s with link := (f s x).link }) (l : List α) (s : State) :
    l.foldl f s = { s with link := (l.foldl f s).link } := by
  induction l generalizing s with
  | nil => rfl
  | cons x xs ih =>
    simp only [List.foldl_cons]
    rw [ih (f s x), h s x]

theorem State.sendUpdate_frame (closed : List Tag) (requests : List Request) (s : State) :
    s.sendUpdate closed requests = { s with link := (s.sendUpdate closed requests).link } := by
  have reports := State.foldl_link_frame (fun (s' : State) f => s'.handReport (reportOf s.cache f))
    (fun s' f => s'.handReport_frame _) s.tracker.pans s
  have closes := State.foldl_link_frame (fun (s' : State) t => s'.handClosed t) (fun s' t => s'.handClosed_frame t) closed
  have notices := State.foldl_link_frame (fun (s' : State) (r : Request) => s'.notice (some r.1) r.2 0)
    (fun s' r => s'.notice_frame _ _ _) requests
  unfold State.sendUpdate
  rw [notices, closes, reports]

/-- R25: the update changes the tracker, what the queue takes, and by its withdrawals the drive. -/
theorem State.trackingUpdate_frame (s : State) :
    s.trackingUpdate =
      { s with
        coils := s.trackingUpdate.coils
        tracker := { pans := s.runUpdate.pans, lifted := s.runUpdate.lifted, serial := s.runUpdate.serial }
        drive := s.trackingUpdate.drive
        sense := s.trackingUpdate.sense
        alloc := { s.alloc with joined := s.alloc.joined || s.runUpdate.joined }
        link := s.trackingUpdate.link } := by
  unfold State.trackingUpdate
  dsimp only
  rw [State.sendUpdate_frame]
  rfl

/-- R42: a confirmation changes the lifted list and what the queue takes. -/
theorem State.confirmIfGone_frame (t : Tag) (s : State) :
    s.confirmIfGone t =
      { s with
        tracker := { s.tracker with lifted := (s.confirmIfGone t).tracker.lifted }
        link := (s.confirmIfGone t).link } := by
  unfold State.confirmIfGone
  split
  · rw [State.foldl_link_frame (fun (s' : State) (r : Request) => s'.notice (some r.1) r.2 0)
      fun s' r => s'.notice_frame _ _ _]
  · rfl

/-- R41. -/
theorem State.departIfLifted_frame (t : Tag) (s : State) :
    s.departIfLifted t =
      { s with
        tracker := { s.tracker with lifted := (s.departIfLifted t).tracker.lifted }
        link := (s.departIfLifted t).link } := by
  unfold State.departIfLifted
  split
  · rw [State.foldl_link_frame (fun (s' : State) (e : LiftedEntry) => s'.notice (some e.tag) .returned 0)
      fun s' r => s'.notice_frame _ _ _]
  · rfl

/-- R43. -/
theorem State.runOut_frame (out : LiftedEntry → Bool) (s : State) :
    s.runOut out =
      { s with
        tracker := { s.tracker with lifted := s.tracker.lifted.filter fun e => !out e }
        link := (s.runOut out).link } := by
  unfold State.runOut
  rw [State.foldl_link_frame (fun (s' : State) (e : LiftedEntry) => s'.notice (some e.tag) .gone 0)
    fun s' r => s'.notice_frame _ _ _]

/-- R55 to R58: the second tick of the programs changes the pan table's programs and what the queue takes. -/
theorem State.tickPrograms_frame (s : State) :
    s.tickPrograms =
      { s with
        tracker := { s.tracker with pans := s.tracker.pans.map (tickFragment s.cache) }
        link := s.tickPrograms.link } := by
  have notices := State.foldl_link_frame (fun (s : State) f => s.tickNotice f)
    (fun s' f => by
      unfold State.tickNotice State.progressNotice
      split
      · split
        · split
          · exact s'.notice_frame _ _ _
          · split
            · exact s'.notice_frame _ _ _
            · rfl
        · rfl
      · rfl) s.tracker.pans s
  unfold State.tickPrograms
  dsimp only
  rw [notices]

theorem State.unsuitableNotice_frame (i : CoilIx) (before : Coil) (s : State) :
    s.unsuitableNotice i before = { s with link := (s.unsuitableNotice i before).link } := by
  unfold State.unsuitableNotice
  split
  · exact s.notice_frame _ _ _
  · rfl

/-- R98: the rise of the frequency changes the frequency. -/
theorem State.raiseFrequency_frame (i : CoilIx) (s : State) :
    s.raiseFrequency i = { s with drive := { s.drive with frequency := (s.raiseFrequency i).drive.frequency } } := by
  unfold State.raiseFrequency
  split <;> rfl

/-- R14, R15, R98, R101: a probe result changes the coils, the drive, the accumulators and what the queue takes. -/
theorem State.takeProbe_frame (i : CoilIx) (c : Capture) (s : State) :
    s.takeProbe i c =
      { s with
        coils := (s.takeProbe i c).coils
        drive := (s.takeProbe i c).drive
        sense := (s.takeProbe i c).sense
        link := (s.takeProbe i c).link } := by
  unfold State.takeProbe
  split
  · dsimp only
    rw [State.raiseFrequency_frame, State.unsuitableNotice_frame]
    rfl
  · rfl

/-- R169: a bus report away from an overvoltage drive changes nothing. -/
theorem State.takeBusReport_idle (high : Bool) (s : State) (h : s.sup.overvoltageDrive = false) :
    s.takeBusReport high = s := by simp [State.takeBusReport, h]

/-! ### Cutting everything (R102, R103) -/

/-- Cutting every coil leaves what `State.AllCut` says. -/
theorem State.cutAll_allCut (s : State) : s.AllCut s.cutAll := by
  have hd : (s.drive.density.mapIx fun _ _ => 0) = Eight.fill 0 := Eight.mapIx_const _ _
  have hb : ∀ a : Eight Bool, (a.mapIx fun _ _ => false) = Eight.fill false := fun a => Eight.mapIx_const _ _
  have ha : (s.sense.acc.mapIx fun _ _ => Accumulator.clear) = Eight.fill Accumulator.clear := Eight.mapIx_const _ _
  refine ⟨Eight.ext_get fun i => by simp [State.cutAll], ?_, ?_⟩
  · simp [State.cutAll, State.cutSet, hd, hb, Config.shortfallTop]
  · simp [State.cutAll, State.cutSet, ha]

/-- Where everything has been cut, nothing is driven. -/
theorem State.AllCut.driveOff {s t : State} (h : s.AllCut t) : t.DriveOff where
  density := by rw [h.drive]
  driven := by rw [h.drive]
  high := by rw [h.drive]
  low := by rw [h.drive]
  heating := fun i => by rw [h.coils]; simp
  flight := by rw [h.sense]

/-- Cutting a set of coils leaves what `State.CutOf` says. -/
theorem State.cutSet_cutOf (cut counted : CoilIx → Bool) (s : State) : s.CutOf (s.cutSet cut counted) cut counted where
  off := fun i h => by simp [State.cutSet, h]
  kept := fun i h => by simp [State.cutSet, h]
  rest := by simp [State.cutSet, Config.shortfallTop]

/-- What a cut leaves outside the drive, the heating flags and the accumulators. -/
theorem State.cutSet_frame (cut counted : CoilIx → Bool) (s : State) :
    s.cutSet cut counted =
      { s with
        coils := (s.cutSet cut counted).coils
        drive := (s.cutSet cut counted).drive
        sense := { s.sense with acc := (s.cutSet cut counted).sense.acc } } := rfl

/-! ### Receiving (R138, R147) -/

/-- R138: frames are received outside SILENT while the receiver waits for no idle line. -/
theorem State.receives_eq_true (s : State) : s.receives = true ↔ s.sup.state ≠ .silent ∧ s.link.awaitsIdle = false := by
  simp [State.receives]

/-- R138: a frame that is not received only passes. -/
theorem State.takeFrame_passed (kind : FrameKind) (source : LinkPos) (payload : List Byte) {s : State}
    (h : s.receives = false) : s.takeFrame kind source payload = s.passFrame := by simp [State.takeFrame, h]

/-- R138: bits that are not received only pass. -/
theorem State.receiveLine_passed (bits : List Bool) {s : State} (h : s.receives = false) :
    s.receiveLine bits = s.passFrame := by simp [State.receiveLine, h]

/-- R138: a frame of another station that is received is acknowledged and handled by its kind and its source. -/
theorem State.takeFrame_received (kind : FrameKind) (source : LinkPos) (payload : List Byte) {s : State}
    (h : s.receives = true) (other : modulePosition source ≠ some s.sup.position) :
    s.takeFrame kind source payload = (s.markSlots true false).handleFrame kind source payload := by
  simp [State.takeFrame, h, other]

/-- R147: a closed report of which the table holds no entry changes nothing. -/
theorem State.closePeer_absent (q : Position) (t : Tag) {s : State}
    (h : s.link.peers.any (PeerEntry.isOf q t) = false) : s.closePeer q t = s := by simp [State.closePeer, h]

/-- R42, R147: a closed report changes the peer table, the lifted list and what the queue takes. -/
theorem State.closePeer_frame (q : Position) (t : Tag) (s : State) :
    s.closePeer q t =
      { s with
        tracker := { s.tracker with lifted := (s.closePeer q t).tracker.lifted }
        link := (s.closePeer q t).link } := by
  unfold State.closePeer
  split
  · rw [State.confirmIfGone_frame]
  · rfl

/-! ### The transmit queue (R142, R144) -/

/-- R142: replacing a frame keeps every key in its place. -/
@[simp] theorem replaceFrame_keys (key : Key) (payload : List Byte) (q : List QueueEntry) :
    (replaceFrame key payload q).map (fun e => e.key) = q.map fun e => e.key := by
  simp only [replaceFrame, List.map_map]
  refine List.map_congr_left fun e _ => ?_
  simp only [Function.comp_apply]
  split
  · split <;> rfl
  · rfl

@[simp] theorem replaceFrame_length (key : Key) (payload : List Byte) (q : List QueueEntry) :
    (replaceFrame key payload q).length = q.length := by simp [replaceFrame]

/-- R142, R144: everything handing a frame can do to the queue and the dropped count. -/
theorem Link.hand_cases (key : Key) (level : Nat) (payload : List Byte) (l : Link) :
    (holdsKey key l.queue = true ∧ l.hand key level payload = { l with queue := replaceFrame key payload l.queue }) ∨
    (holdsKey key l.queue = false ∧ l.queue.length < Config.queueSize ∧
      l.hand key level payload =
        { l with
          queue :=
            l.queue ++ [{ key := key, level := level, payload := payload, contending := false, replacement := none }] }) ∨
    (holdsKey key l.queue = false ∧ Config.queueSize ≤ l.queue.length ∧
      (∃ m, lowestLevel l.queue = some m ∧ m < level ∧
        l.hand key level payload =
          { l with
            queue :=
              dropOldest m l.queue ++
                [{ key := key, level := level, payload := payload, contending := false, replacement := none }]
            dropped := bump l.dropped })) ∨
    (holdsKey key l.queue = false ∧ Config.queueSize ≤ l.queue.length ∧ (∀ m, lowestLevel l.queue = some m → level ≤ m) ∧
      l.hand key level payload = { l with dropped := bump l.dropped }) := by
  unfold Link.hand
  cases hk : holdsKey key l.queue with
  | true => exact .inl ⟨rfl, rfl⟩
  | false =>
    by_cases hn : l.queue.length < Config.queueSize
    · exact .inr (.inl ⟨rfl, hn, by simp [hn]⟩)
    · have hn' : Config.queueSize ≤ l.queue.length := Nat.le_of_not_lt hn
      cases hl : lowestLevel l.queue with
      | none => exact .inr (.inr (.inr ⟨rfl, hn', by simp, by simp [hn]⟩))
      | some m =>
        by_cases hm : m < level
        · exact .inr (.inr (.inl ⟨rfl, hn', m, rfl, hm, by simp [hn, hm]⟩))
        · exact .inr (.inr (.inr ⟨rfl, hn', by simp; omega, by simp [hn, hm]⟩))

/-! ### What is handed to the queue outside SILENT (R44, R150) -/

/-- R150: outside SILENT a frame reaches the link. -/
theorem State.hand_live (key : Key) (level : Nat) (payload : List Byte) {s : State} (h : s.sup.state ≠ .silent) :
    s.hand key level payload = { s with link := s.link.hand key level payload } := by simp [State.hand, h]

/-- R44: outside SILENT a notice of a tag reaches the link. -/
theorem State.notice_live (tag : Tag) (kind : NoticeKind) (detail : Nat) {s : State} (h : s.sup.state ≠ .silent) :
    s.notice (some tag) kind detail = { s with link := s.link.notify s.setup.noticeLevel tag kind detail } := s.hand_live _ _ _ h

/-- R44: outside SILENT frames handed one after the other reach the link in their order. -/
theorem State.foldl_live {α : Type} (f : State → α → State) (g : Setup → Link → α → Link)
    (hf : ∀ s a, s.sup.state ≠ .silent → f s a = { s with link := g s.setup s.link a }) (l : List α) :
    ∀ {s : State}, s.sup.state ≠ .silent → l.foldl f s = { s with link := l.foldl (g s.setup) s.link } := by
  induction l with
  | nil => intro s _; rfl
  | cons a l ih => intro s h; rw [List.foldl_cons, hf s a h, ih (by exact h)]; rfl

/-- R44: the notices of a list of lifted entries. -/
theorem State.foldl_notice (kind : LiftedEntry → NoticeKind) (entries : List LiftedEntry) {s : State}
    (h : s.sup.state ≠ .silent) :
    entries.foldl (fun s' e => s'.notice (some e.tag) (kind e) 0) s =
      { s with link := s.link.notifyEach s.setup.noticeLevel kind entries } :=
  State.foldl_live _ (fun su l e => l.notify su.noticeLevel e.tag (kind e) 0) (fun _ _ h => State.notice_live _ _ _ h) _ h

/-- R40: outside SILENT, all that step 12 does. -/
theorem State.sendUpdate_eq (closed : List Tag) (requests : List Request) {s : State} (h : s.sup.state ≠ .silent) :
    s.sendUpdate closed requests =
      { s with
        link :=
          requests.foldl (fun l r => l.notify s.setup.noticeLevel r.1 r.2 0)
            (closed.foldl (fun l t => l.hand (.fragment t) s.setup.fragmentLevel (encodeClosed t))
              (s.tracker.pans.foldl
                (fun l f => l.hand (.fragment f.tag) s.setup.fragmentLevel (encodeReport (reportOf s.cache f))) s.link)) } := by
  unfold State.sendUpdate
  dsimp only
  rw [State.foldl_live (fun (s' : State) f => s'.handReport (reportOf s.cache f))
      (fun su l f => l.hand (.fragment f.tag) su.fragmentLevel (encodeReport (reportOf s.cache f)))
      (fun _ _ h => State.hand_live _ _ _ h) _ h,
    State.foldl_live (fun (s' : State) t => s'.handClosed t)
      (fun su l t => l.hand (.fragment t) su.fragmentLevel (encodeClosed t)) (fun _ _ h => State.hand_live _ _ _ h) _ (by exact h),
    State.foldl_live (fun (s' : State) (r : Request) => s'.notice (some r.1) r.2 0)
      (fun su l r => l.notify su.noticeLevel r.1 r.2 0) (fun _ _ h => State.notice_live _ _ _ h) _ (by exact h)]

/-- R42: the requests of entries that are confirmed are notices of their causes, where this module was home. -/
theorem foldl_confirmRequest (entries : List LiftedEntry) (s : State) :
    (entries.flatMap confirmRequest).foldl (fun s' r => s'.notice (some r.1) r.2 0) s =
      (entries.filter fun e => e.wasHome).foldl (fun s' e => s'.notice (some e.tag) e.cause.notice 0) s := by
  induction entries generalizing s with
  | nil => rfl
  | cons e l ih => cases he : e.wasHome <;> simp [confirmRequest, he, ih]

/-- No report of a tag with area above 0 is left. -/
theorem State.unreported_iff (s : State) (t : Tag) : (reportsOf s.link.peers t).isEmpty = true ↔ s.Unreported t := by
  simp [reportsOf, State.Unreported, List.filter_eq_nil_iff]

/-- R42: all that a confirmation does. -/
theorem State.confirmIfGone_eq (t : Tag) (s : State) :
    s.confirmIfGone t =
      if s.sup.state = .run ∧ s.Unreported t then
        { s with
          tracker :=
            { s.tracker with
              lifted := s.tracker.lifted.map fun e => if e.tag = t then { e with confirmed := true } else e }
          link := s.causesHanded t s.link }
      else s := by
  unfold State.confirmIfGone
  by_cases h : s.sup.state = .run ∧ s.Unreported t
  · rw [if_pos h, if_pos (by simp [h.1, (s.unreported_iff t).2 h.2])]
    rw [foldl_confirmRequest, State.foldl_notice _ _ (by simp [h.1]), List.filter_filter]
    congr 2
    exact List.filter_congr fun e _ => by grind
  · rw [if_neg h, if_neg (by simpa [s.unreported_iff] using h)]

/-- R41: all that a report of a tag does to the lifted list. -/
theorem State.departIfLifted_eq (t : Tag) (s : State) :
    s.departIfLifted t =
      if s.sup.state = .run then
        { s with
          tracker := { s.tracker with lifted := s.tracker.lifted.filter fun e => e.tag ≠ t }
          link :=
            s.link.notifyEach s.setup.noticeLevel (fun _ => .returned)
              (s.tracker.lifted.filter fun e => decide (e.tag = t) && e.confirmed && e.wasHome) }
      else s := by
  unfold State.departIfLifted
  by_cases h : s.sup.state = .run
  · rw [if_pos h, if_pos h, State.foldl_notice (fun _ => .returned) _ (by simp [h]), List.filter_filter]
    congr 2
    exact List.filter_congr fun e _ => by grind
  · rw [if_neg h, if_neg h]

/-- R43: outside SILENT, all that the running out of lifted entries does. -/
theorem State.runOut_eq (out : LiftedEntry → Bool) {s : State} (h : s.sup.state ≠ .silent) :
    s.runOut out =
      { s with
        tracker := { s.tracker with lifted := s.tracker.lifted.filter fun e => !out e }
        link :=
          s.link.notifyEach s.setup.noticeLevel (fun _ => .gone)
            (s.tracker.lifted.filter fun e => out e && e.confirmed && e.wasHome) } := by
  unfold State.runOut
  dsimp only
  rw [State.foldl_notice (fun _ => .gone) _ (by exact h), List.filter_filter]
  congr 2
  exact List.filter_congr fun e _ => by grind

/-! ### The ageing of the peer fragment table (R42, R148) -/

/-- R142, R144: a frame handed to the queue changes the queue and the dropped count alone. -/
theorem Link.hand_frame (key : Key) (level : Nat) (payload : List Byte) (l : Link) :
    l.hand key level payload =
      { l with queue := (l.hand key level payload).queue, dropped := (l.hand key level payload).dropped } := by
  rcases Link.hand_cases key level payload l with h | h | ⟨_, _, m, _, _, h⟩ | h <;> (first | rw [h.2] | rw [h.2.2] | rw [h] | rw [h.2.2.2])

/-- R44: notices change the queue and the dropped count alone. -/
theorem Link.notifyEach_frame (level : Nat) (kind : LiftedEntry → NoticeKind) (entries : List LiftedEntry) (l : Link) :
    l.notifyEach level kind entries =
      { l with queue := (l.notifyEach level kind entries).queue, dropped := (l.notifyEach level kind entries).dropped } := by
  induction entries generalizing l with
  | nil => rfl
  | cons e entries ih =>
    have first := l.hand_frame (.notice (some e.tag) (kind e)) level (encodeNotice (some e.tag) (kind e) 0)
    simp only [Link.notifyEach, List.foldl_cons, Link.notify] at ih ⊢
    rw [ih, first]

/-- R42: so do the notices of the causes of a tag. -/
theorem State.causesHanded_frame (s : State) (t : Tag) (l : Link) :
    s.causesHanded t l = { l with queue := (s.causesHanded t l).queue, dropped := (s.causesHanded t l).dropped } :=
  Link.notifyEach_frame _ _ _ l

@[simp] theorem State.causesHanded_peers (s : State) (t : Tag) (l : Link) : (s.causesHanded t l).peers = l.peers := by
  rw [State.causesHanded_frame]

/-- What a frame does to the queue does not depend on the peer fragment table. -/
theorem Link.hand_withPeers (key : Key) (level : Nat) (payload : List Byte) (p : List PeerEntry) (l : Link) :
    ({ l with peers := p } : Link).hand key level payload = { l.hand key level payload with peers := p } := by
  unfold Link.hand
  dsimp only
  split
  · rfl
  · split
    · rfl
    · split
      · rfl
      · split <;> rfl

theorem State.causesHanded_withPeers (s : State) (t : Tag) (p : List PeerEntry) (l : Link) :
    s.causesHanded t { l with peers := p } = { s.causesHanded t l with peers := p } := by
  unfold State.causesHanded
  generalize s.tracker.lifted.filter _ = entries
  induction entries generalizing l with
  | nil => rfl
  | cons e entries ih =>
    simp only [Link.notifyEach, List.foldl_cons, Link.notify, Link.hand_withPeers] at ih ⊢
    rw [ih]

/-- Every lifted entry of a tag is confirmed, or the test of R42 does not confirm any. -/
def State.SettledTag (t : Tag) (s : State) : Prop :=
  s.sup.state = .run → s.Unreported t → ∀ e ∈ s.tracker.lifted, e.tag = t → e.confirmed = true

/-- R42: the test of a settled tag does nothing. -/
theorem State.confirmIfGone_settled {t : Tag} {s : State} (h : s.SettledTag t) : s.confirmIfGone t = s := by
  rw [s.confirmIfGone_eq]
  split
  · rename_i hc
    have done := h hc.1 hc.2
    have lifted : (s.tracker.lifted.map fun e => if e.tag = t then { e with confirmed := true } else e) = s.tracker.lifted := by
      refine (List.map_congr_left fun e he => ?_).trans (List.map_id _)
      split
      · rename_i ht
        have := done e he ht
        cases e
        simp_all
      · rfl
    have none : (s.tracker.lifted.filter fun e => decide (e.tag = t) && !e.confirmed && e.wasHome) = [] := by
      rw [List.filter_eq_nil_iff]
      intro e he
      simp only [Bool.and_eq_true, decide_eq_true_eq, Bool.not_eq_true', not_and]
      intro h1
      simp [done e he h1.1] at h1
    rw [lifted, State.causesHanded, none]
    rfl
  · rfl

theorem State.confirmIfGone_settles (t : Tag) (s : State) : (s.confirmIfGone t).SettledTag t := by
  rw [s.confirmIfGone_eq]
  split
  · intro _ _ e he ht
    simp only [List.mem_map] at he
    obtain ⟨x, _, rfl⟩ := he
    split at ht <;> simp_all
  · rename_i h
    exact fun hr hu => absurd ⟨hr, hu⟩ h

theorem State.SettledTag.confirmIfGone {t : Tag} {s : State} (h : s.SettledTag t) (u : Tag) :
    (s.confirmIfGone u).SettledTag t := by
  rw [s.confirmIfGone_eq]
  split
  · intro hr hu e he ht
    simp only [List.mem_map] at he
    obtain ⟨x, hx, rfl⟩ := he
    split
    · rfl
    · rename_i hn
      simp only [hn, if_false] at ht
      exact h hr (by simpa [State.Unreported] using hu) x hx ht
  · exact h

/-- R42: a tag that has been tested needs no second test. -/
theorem State.foldl_confirm_skip {t : Tag} (tags : List Tag) {s : State} (h : s.SettledTag t) :
    tags.foldl (fun s t => s.confirmIfGone t) s = (tags.filter fun u => !u == t).foldl (fun s t => s.confirmIfGone t) s := by
  induction tags generalizing s with
  | nil => rfl
  | cons u tags ih =>
    by_cases hu : u = t
    · subst hu
      simp only [List.foldl_cons, State.confirmIfGone_settled h, ih h, BEq.rfl, Bool.not_true, Bool.false_eq_true, not_false_eq_true,
        List.filter_cons_of_neg]
    · have hb : (!u == t) = true := by simp [hu]
      rw [List.filter_cons_of_pos (by simpa using hu), List.foldl_cons, List.foldl_cons, ih (h.confirmIfGone u)]

/-- R42: only the first test of each tag does anything. -/
theorem State.foldl_confirm_eraseDups (tags : List Tag) (s : State) :
    tags.foldl (fun s t => s.confirmIfGone t) s = tags.eraseDups.foldl (fun s t => s.confirmIfGone t) s := by
  induction h : tags.length using Nat.strong_induction_on generalizing tags s with
  | _ n ih =>
    cases tags with
    | nil => rfl
    | cons t tags =>
      rw [List.eraseDups_cons, List.foldl_cons, List.foldl_cons, State.foldl_confirm_skip _ (s.confirmIfGone_settles t)]
      refine ih _ ?_ _ _ rfl
      have := List.length_filter_le (fun u => !u == t) tags
      simp only [List.length_cons] at h
      omega

/-- R42: all that the tests of distinct tags do. -/
theorem State.foldl_confirmIfGone (tags : List Tag) (distinct : tags.Nodup) (s : State) {closed : List Tag}
    (h : (tags.filter fun t => decide (s.sup.state = .run ∧ s.Unreported t)) = closed) :
    tags.foldl (fun s t => s.confirmIfGone t) s =
      { s with
        tracker :=
          { s.tracker with
            lifted := s.tracker.lifted.map fun e => if e.tag ∈ closed then { e with confirmed := true } else e }
        link := closed.foldl (fun l t => s.causesHanded t l) s.link } := by
  subst h
  induction tags generalizing s with
  | nil => simp
  | cons t tags ih =>
    have apart := (List.nodup_cons.1 distinct).1
    rw [List.foldl_cons, ih (List.nodup_cons.1 distinct).2, s.confirmIfGone_eq]
    by_cases h : s.sup.state = .run ∧ s.Unreported t
    · have causes : ∀ u ∈ tags, ∀ l : Link,
          State.causesHanded
              { s with
                tracker :=
                  { s.tracker with
                    lifted := s.tracker.lifted.map fun e => if e.tag = t then { e with confirmed := true } else e }
                link := s.causesHanded t s.link } u l = s.causesHanded u l := by
        intro u hu l
        have hut : u ≠ t := fun e => apart (e ▸ hu)
        unfold State.causesHanded
        dsimp only
        rw [List.filter_map, List.filter_congr (q := fun e => decide (e.tag = u) && !e.confirmed && e.wasHome)]
        · congr 1
          refine (List.map_congr_left fun e he => ?_).trans (List.map_id _)
          have := (List.mem_filter.1 he).2
          simp only [Bool.and_eq_true, decide_eq_true_eq] at this
          rw [if_neg (this.1.1 ▸ hut)]
          rfl
        · intro e _
          simp only [Function.comp_apply]
          split
          · rename_i he
            simp [he, Ne.symm hut]
          · rfl
      have same : ∀ u, (∀ e ∈ (s.causesHanded t s.link).peers, e.report.tag = u → e.report.area = 0) ↔ s.Unreported u := by
        simp [State.Unreported]
      simp only [if_pos h, List.filter_cons, decide_eq_true h, if_true, List.foldl_cons, List.map_map, State.Unreported, same]
      rw [List.foldl_ext _ (fun l u => s.causesHanded u l) _ fun l u hu => causes u (List.mem_filter.1 hu).1 l]
      congr 2
      refine List.map_congr_left fun e _ => ?_
      simp only [Function.comp_apply, List.mem_cons]
      by_cases he : e.tag = t
      · simp [he]
      · simp [he]
    · simp only [if_neg h, List.filter_cons, decide_eq_false h]
      rfl

theorem nodup_eraseDups (tags : List Tag) : tags.eraseDups.Nodup := by
  induction h : tags.length using Nat.strong_induction_on generalizing tags with
  | _ n ih =>
    cases tags with
    | nil => exact List.nodup_nil
    | cons t tags =>
      have := List.length_filter_le (fun u => !u == t) tags
      simp only [List.length_cons] at h
      rw [List.eraseDups_cons, List.nodup_cons]
      exact ⟨by simp [List.mem_eraseDups], ih _ (by omega) _ rfl⟩

/-- R42, R148: all that the ageing of the peer fragment table does at a window start. -/
theorem State.agePeers_eq (s : State) :
    s.agePeers =
      { s with
        tracker :=
          { s.tracker with
            lifted := s.tracker.lifted.map fun e => if e.tag ∈ s.closedByAge then { e with confirmed := true } else e }
        link :=
          { s.agedHanded with
            peers := (s.link.peers.filter fun e => decide (e.age < 3)).map fun e => { e with age := e.age + 1 } } } := by
  have young : (fun e : PeerEntry => !outAged e) = fun e => decide (e.age < 3) := by
    funext e
    by_cases h : e.age < 3
    · simp [outAged, h]
    · simp [outAged, h]
      omega
  have closed : ∀ u : State, u.sup = s.sup → u.link.peers = (s.link.peers.filter fun e => decide (e.age < 3)) →
      (((s.link.peers.filter outAged).map fun e => e.report.tag).eraseDups.filter fun t =>
        decide (u.sup.state = .run ∧ u.Unreported t)) = s.closedByAge := by
    intro u hs hp
    unfold State.closedByAge
    rw [hs]
    split
    · rename_i h
      refine List.filter_congr fun t _ => ?_
      simp [h, State.Unreported, hp]
    · rename_i h
      simp [h]
  have fold : ∀ (tags : List Tag) (p : List PeerEntry) (l : Link),
      tags.foldl (fun l t => s.causesHanded t l) { l with peers := p } =
        { tags.foldl (fun l t => s.causesHanded t l) l with peers := p } := by
    intro tags p
    induction tags with
    | nil => intro l; rfl
    | cons t tags ih => intro l; rw [List.foldl_cons, State.causesHanded_withPeers, ih]; rfl
  unfold State.agePeers State.removePeers
  dsimp only
  rw [← List.foldl_map (f := fun e : PeerEntry => e.report.tag) (g := fun s' t => State.confirmIfGone t s'),
    State.foldl_confirm_eraseDups,
    State.foldl_confirmIfGone _ (nodup_eraseDups _)
      { s with link := { s.link with peers := s.link.peers.filter fun e => !outAged e } } (closed _ rfl (by rw [young]))]
  have handed := fold s.closedByAge (s.link.peers.filter fun e => !outAged e) s.link
  rw [← young]
  change _ = { s with
    tracker := _
    link := { s.closedByAge.foldl (fun l t => s.causesHanded t l) s.link with peers := _ } }
  change { s with
    tracker := _
    link :=
      { s.closedByAge.foldl (fun l t => s.causesHanded t l)
          { s.link with peers := s.link.peers.filter fun e => !outAged e } with
        peers :=
          List.map _
            (s.closedByAge.foldl (fun l t => s.causesHanded t l)
              { s.link with peers := s.link.peers.filter fun e => !outAged e }).peers } } = _
  rw [handed]

/-! ### The status (R150, R157) -/

/-- R171: the numbers the fault summary is formed from are those of the active conditions. -/
theorem State.active_conditions (s : State) : s.Active s.activeConditions := by
  have latched : s.coilLatched = true ↔ ∃ i, (s.coils.get i).fitted = true ∧ (s.coils.get i).faultRetries = 3 := by
    simp [State.coilLatched, Eight.toList, Fin.exists_fin_succ, Eight.get]
  have sensor :
      s.sensorFault = true ↔
        s.sense.sinkFault = true ∨ ∃ i, (s.coils.get i).fitted = true ∧ (s.coils.get i).sensorFault = true := by
    simp [State.sensorFault, Eight.toList, Fin.exists_fin_succ, Eight.get]
  constructor
  · intro n
    rw [← latched, ← sensor]
    simp only [State.activeConditions, List.mem_filterMap, List.mem_cons, List.not_mem_nil, or_false]
    constructor
    · rintro ⟨c, hc, hn⟩
      rcases hc with rfl | rfl | rfl | rfl | rfl | rfl | rfl | rfl <;> simp_all
    · rintro (h | h | h | h | h | h | h | h) <;> simp [h]
  · refine List.Pairwise.filterMap (R := fun a b => a.1 < b.1) _ (fun a b hab x hx y hy => ?_) (by simp)
    grind

/-- R157: outside RUN the status is one with D, G and M of 0 and empty masks. -/
theorem State.status_idle (s : State) (h : s.sup.state ≠ .run) : s.IdleStatus s.status := by
  refine ⟨s.activeConditions, s.active_conditions, ?_⟩
  simp only [State.status, h, decide_false, Bool.false_eq_true, if_false]
  congr 1
  · cases s.sup.state <;> rfl
  · cases hs : s.sup.state <;> simp_all
    cases s.sup.stopCause <;> rfl

/-- R142, R150: replacing the status in the queue is what `statusReplaced` says. -/
theorem replaceFrame_status (payload : List Byte) (q : List QueueEntry) :
    replaceFrame .status payload q = statusReplaced payload q := rfl

/-! ### The entries of the module states -/

/-- R166: what entry to STOPPED leaves. -/
theorem State.enterStopped_from (s : State) : s.StoppedFrom s.enterStopped where
  cut := ⟨s.cutAll_allCut.coils, s.cutAll_allCut.drive, s.cutAll_allCut.sense⟩
  probe := rfl
  cache := rfl
  pans := by
    simp only [State.enterStopped, State.replaceStatus, State.zeroFigures, State.dropPrograms, State.abortSweep,
      State.cutAll_tracker, List.map_map]
    rfl
  lifted := rfl
  serial := rfl
  figures := rfl
  state := rfl
  queue := ⟨_, s.enterStopped.status_idle (by simp [State.enterStopped, State.replaceStatus]), rfl⟩
  link := rfl
  rest := rfl

/-- R166: the Supervisor at entry to STOPPED. -/
@[simp] theorem State.enterStopped_sup (s : State) :
    s.enterStopped.sup = { s.sup with state := .stopped, stopCause := s.causeNow } := rfl

/-- R167: the Supervisor at entry to QUIET. -/
@[simp] theorem State.enterQuiet_sup (s : State) :
    s.enterQuiet.sup = { s.sup with state := .quiet, lastPanel := .standby, stopCause := .none } := rfl

/-- R170: the Supervisor at entry to SILENT. -/
@[simp] theorem State.enterSilent_sup (s : State) : s.enterSilent.sup = { s.sup with state := .silent } := rfl

/-- R19: what a fitted coil is after entry to QUIET. -/
theorem State.enterQuiet_coil (s : State) (i : CoilIx) (h : (s.coils.get i).fitted = true) :
    s.enterQuiet.coils.get i =
      { s.coils.get i with
        presence := .absent, coverage := 0, floor := (s.setup.coils.get i).floor, liftSuspected := false, held := false,
        heating := false } := by
  simp [State.enterQuiet, State.replaceStatus, State.zeroFigures, State.abortSweep, State.cutAll, quietCoil, h]

/-- R167: what entry to QUIET leaves. -/
theorem State.enterQuiet_from (s : State) : s.QuietFrom s.enterQuiet where
  off :=
    { density := s.cutAll_allCut.driveOff.density
      driven := s.cutAll_allCut.driveOff.driven
      high := s.cutAll_allCut.driveOff.high
      low := s.cutAll_allCut.driveOff.low
      heating := fun i => by
        simp [State.enterQuiet, State.replaceStatus, State.zeroFigures, State.abortSweep, State.cutAll, quietCoil, apply_ite]
      flight := s.cutAll_allCut.driveOff.flight }
  drive := s.cutAll_allCut.drive
  sense := s.cutAll_allCut.sense
  probe := rfl
  coils := fun i h => s.enterQuiet_coil i h
  unfitted := fun i h => by
    simp [State.enterQuiet, State.replaceStatus, State.zeroFigures, State.abortSweep, State.cutAll, quietCoil, h]
  tables := ⟨rfl, rfl⟩
  figures := rfl
  state := ⟨rfl, rfl, rfl⟩
  queue := ⟨_, s.enterQuiet.status_idle (by simp [State.enterQuiet, State.replaceStatus]), rfl⟩
  link := rfl
  rest := rfl

/-- The module senses its own drive of the stop line (R166, R169). -/
theorem State.stopAsserted_eq (s : State) :
    s.stopAsserted = (s.sup.stopExternal || (s.sup.overvoltageDrive || decide (s.sup.state = .silent))) := rfl

end Sys2Proof.Machine
end

