-- ==== Sys2Proof/Tests/Slice0.lean ====
section
/-! SUPPORT. The tests: the smoke test of the operand checks, the spec's worked numbers on single steps, and for every statement with
hypotheses a witness that meets all of them, clause by clause. Expected values come from the worked cases of spec/, cited at
each test. -/

namespace Sys2Proof.Tests

open Sys2Proof Sys2Proof.Machine

set_option Elab.async false

/-! ### Small states -/

/-- The state a command leaves. -/
def after (c : Instr) (s : State) : State :=
  match exec c s with
  | .next t => t
  | _ => s

/-- The coil of 9.8.1. -/
def coilSetup : CoilSetup :=
  { fitted := true, emptyCount := 28, fullCount := 4, emptyPeriod := 640, floor := 44, coilMax := 180, nominalPower := 60,
    softTemp := 200, hardTemp := 240, currentLimit := 1200 }

/-- The module values of 4.9, 5.7 and 11.4. -/
def setup : Setup :=
  { phase := .a, phaseLimit := 370, moduleMax := 600, startFrequency := 56, probeWidth := 6, deadTime := 64,
    fragmentLevel := 2, statusLevel := 1, noticeLevel := 0, sinkSoft := 80, sinkHard := 110, busMax := 900, busMin := 300,
    coils := Eight.fill coilSetup }

/-- A fitted coil, read and cool. -/
def coil : Coil := { Coil.reset with fitted := true, floor := 44, temperature := some 50, overheat := false }

/-- A covered coil. -/
def coveredCoil (coverage : Nat) : Coil := { coil with presence := .pan, coverage := coverage }

/-- A module 2 in QUIET on 50 Hz mains. -/
def quiet : State :=
  { State.reset with
    timebase :=
      { Timebase.reset with mainsClass := .hz50, measCount := 8, period := some 10000, reference := some 100000 }
    coils := Eight.fill coil
    drive := { Drive.reset with frequency := 56 }
    sup := { Supervisor.reset with state := .quiet, held := false, position := 2 }
    setupGood := true
    setup := setup }

/-- The state of the Supervisor changed. -/
def inState (m : ModuleState) (s : State) : State := { s with sup := { s.sup with state := m } }

/-- The Timebase changed. -/
def withTime (f : Timebase → Timebase) (s : State) : State := { s with timebase := f s.timebase }

/-- The Supervisor changed. -/
def withSup (f : Supervisor → Supervisor) (s : State) : State := { s with sup := f s.sup }

/-- The link changed. -/
def withLink (f : Link → Link) (s : State) : State := { s with link := f s.link }

/-- The Sense Unit changed. -/
def withSense (f : Sense → Sense) (s : State) : State := { s with sense := f s.sense }

/-- The Drive Unit changed. -/
def withDrive (f : Drive → Drive) (s : State) : State := { s with drive := f s.drive }

/-- A coil changed. -/
def withCoil (i : CoilIx) (f : Coil → Coil) (s : State) : State := { s with coils := s.coils.update i f }

/-- Coils taken out of the setup. -/
def without (unfitted : List CoilIx) (s : State) : State :=
  { s with coils := s.coils.mapIx fun i c => { c with fitted := c.fitted && !unfitted.contains i } }

/-- The keys of the frames that wait. -/
def keys (s : State) : List Key := s.link.queue.map fun e => e.key

/-- The same module in RUN. -/
def run : State := withSup (fun u => { u with lastPanel := .on }) (inState .run quiet)

def tag27 : Tag := { creator := 2, serial := 7 }

/-- A one-step setting of target 250 with no duration. -/
def entry27 : CacheEntry :=
  { tag := tag27, revision := 4, mode := .eachStep, steps := [{ target := 250, duration := 0, loop := none }], age := 0 }

def program27 : Program := { revision := 4, step := 0, remaining := 0, loop := none, done := false }

/-- The fragment of 4.9: coils 0, 1, 4 and 5. -/
def pan27 : Fragment :=
  { tag := tag27, coils := [0, 1, 4, 5], area := 208, edge := ⟨64, 48, 0, 0, 64, 32, 0, 0⟩, origin := .tracked,
    program := some program27, home := true, contact := false, panContact := false, share := 0 }

/-- Module 3's report of 4.9. -/
def peer3 : PeerEntry :=
  { source := 3
    report :=
      { tag := tag27, area := 112, edge := ⟨60, 52, 0, 0, 0, 0, 0, 0⟩, published := none, home := false, contact := false }
    age := 1 }

def status (phase : Phase) (demand maximum frequency : Nat) (rightMask : BitVec 4) : Status :=
  { stateCode := 3, phase := phase, causeCode := 1, demand := demand, grant := 0, maximum := maximum,
    frequency := frequency, role := .free, chainFloor := 44, leftMask := 0, rightMask := rightMask, faultTop := 0,
    faultCount := 0, byte12 := 0, losses := 0, rejects := 0, unheard := 0, dropped := 0, malformed := 0, shortfall := 0 }

/-- The roster of Table 4-7. -/
def roster : Eight RosterEntry :=
  { Eight.fill RosterEntry.unheard with
    c1 := { content := some (status .a 40 200 56 0), age := 5 }
    c3 := { content := some (status .a 87 600 56 0), age := 1 }
    c4 := { content := some (status .b 310 600 56 0), age := 0 } }

/-- Module 2 at the allocation point of 4.9. -/
def sharing : State :=
  { run with
    timebase := { run.timebase with halfCycle := 1, allocationRaised := true }
    coils := ⟨coveredCoil 64, coveredCoil 48, coil, coil, coveredCoil 64, coveredCoil 32, coil, coil⟩
    tracker := { pans := [pan27], lifted := [], serial := 8 }
    cache := [entry27]
    alloc := { Allocator.zero with joined := true }
    drive := { run.drive with frequency := 60 }
    sense :=
      { run.sense with sinkTemp := some 55, power := ⟨some 60, some 45, none, none, some 58, some 30, none, none⟩ }
    link := { run.link with roster := roster, peers := [peer3] } }

/-- The same module in the drive slots of the window of 5.7. -/
def driving : State := after .allocationPoint sharing

/-- Twelve waiting entries of keys apart, at levels 1, 2 and 3 in turn. -/
def fullQueue : List QueueEntry :=
  (List.range 12).map fun n =>
    { key := .fragment { creator := 2, serial := Fin.ofNat 4096 (n + 1) }, level := n % 3 + 1, payload := [], contending := false
      replacement := none }

/-- The image of 9.8.1: one coil, the rest unfitted; the check makes the sum 0. -/
def image : List Byte :=
  [1, 0, 1, 0x72, 2, 0x58, 56, 6, 64, 2, 1, 0, 80, 110, 3, 0x84, 1, 0x2C] ++ List.replicate 65 0 ++
    [0x9C, 4, 2, 0x80, 0x2C, 0x0B, 0x40, 0x3C, 0x0C, 0x80, 0xF0, 4, 0xB0] ++ List.replicate 31 0 ++ [58]

/-! ### The operand checks: an ill-formed command is refused by each -/

theorem test_wf_image_short : (Instr.setupReadEnd (List.replicate 127 0)).wellFormed = false := by decide +kernel

theorem test_wf_payload_long : (Instr.panSetting 9 (List.replicate 64 0)).wellFormed = false := by decide +kernel

theorem test_wf_panel_payload_long : (Instr.panelState 9 (List.replicate 64 0)).wellFormed = false := by decide +kernel

theorem test_wf_fragment_payload_long : (Instr.fragment 3 (List.replicate 64 0)).wellFormed = false := by decide +kernel

theorem test_wf_status_payload_long : (Instr.moduleStatus 3 (List.replicate 64 0)).wellFormed = false := by decide +kernel

theorem test_wf_notice_payload_long : (Instr.panNotice 3 (List.replicate 64 0)).wellFormed = false := by decide +kernel

theorem test_wf_serial_zero :
    (Instr.cacheExpiry { creator := 2, serial := 0 }).wellFormed = false ∧
      (Instr.stepEnd { creator := 2, serial := 0 }).wellFormed = false ∧
      (Instr.graceExpiry { creator := 2, serial := 0 }).wellFormed = false ∧
      (Instr.peerFragmentAgeOut 3 { creator := 2, serial := 0 }).wellFormed = false := by decide +kernel

theorem test_wf_kind_not_ignored :
    (Instr.ignoredKindFrame 1 3).wellFormed = false ∧ (Instr.ignoredKindFrame 5 3).wellFormed = false := by decide +kernel

theorem test_wf_start_mark_recessive :
    (Instr.frameReject [true, false]).wellFormed = false ∧ (Instr.frameReject []).wellFormed = false := by decide +kernel

/-! ### The step and the queue -/

theorem test_step_takes_front : step { quiet with pending := [.lineIdle, .secondTick] } =
    .next { withLink (fun l => { l with lineIdle := true }) quiet with pending := [.secondTick] } := rfl

theorem test_step_idles : step State.reset = .next State.reset := rfl

theorem test_no_row_has_bits : decodeTableWord 8 0 = none ∧ State.reset.withFetchWord 8 0 = State.reset := by decide +kernel

/-! ### Start-up (spec/11) -/

/-- 11.4: at the end of reset the straps of position 3 are read and the SPI read begins. -/
theorem test_end_of_reset_11_4 :
    let t := after (.endOfReset 3) State.reset
    t.sup.position = 3 ∧ t.sup.resetCause = .powerOn ∧ t.sup.state = .loading ∧ t.sup.reading = true ∧
      t.sup.held = false := by decide +kernel

/-- R172: a dip seen in a reset that the pin began is recorded as a dip; a power-on outranks both. -/
theorem test_reset_cause_precedence :
    (after (.reset .supplyDip) (after (.reset .resetPin) quiet)).sup.resetCause = .supplyDip ∧
      (after (.reset .resetPin) (after (.reset .powerOn) quiet)).sup.resetCause = .powerOn := by decide +kernel

/-- R172: a reset forgets the tables. -/
theorem test_reset_clears : (after (.reset .resetPin) sharing).cache = [] ∧ (after (.reset .resetPin) sharing).tracker.pans = [] ∧
    (after (.reset .resetPin) sharing).setupGood = false := by decide +kernel

/-- Table 11-1, first board: a memory of FFh gives code 1. -/
theorem test_code_of_absent_memory : setupFaultCode (List.replicate 128 0xFF) = 1 := by decide +kernel

/-- Table 11-1, second board: Kf = 25 with Ke = 28 at coil 5 gives code 67 (the check made right again). -/
theorem test_code_67 : setupFaultCode ((image.set 84 25).set 127 37) = 67 := by decide +kernel

/-- Table 11-1, third board: a byte of padding altered gives code 96. -/
theorem test_code_96 : setupFaultCode (image.set 122 1) = 96 := by decide +kernel

/-- 9.8.1: the coil is read as its table gives it, and the image is good. -/
theorem test_image_9_8_1 :
    setupFaultCode image = 0 ∧ readCoilSetup image 5 = coilSetup ∧ (readSetup image).coils.get 4 = CoilSetup.idle ∧
      readSetup image = { setup with coils := (Eight.fill CoilSetup.idle).set 5 coilSetup } := by decide +kernel

/-- 11.4: after the read the frequency is 56 and the coil is fitted with its floor (R10, R176). -/
theorem test_setup_read_end :
    let t := after (.setupReadEnd image) (after (.endOfReset 3) State.reset)
    t.drive.frequency = 56 ∧ t.setupGood = true ∧ (t.coils.get 5).fitted = true ∧ (t.coils.get 5).floor = 44 ∧
      (t.coils.get 4).floor = 41 := by decide +kernel

/-! ### Timebase (spec/05) -/

/-- 11.4: the eighth crossing, at 74 ms after a first at 4 ms, sets class 50 Hz and starts the first window. -/
theorem test_eighth_crossing_11_4 :
    let t := after (.zeroCrossing 74000)
      (withTime (fun b => { b with mainsClass := .unknown, measCount := 7, measFirst := 4000, measPrev := 64000 }) quiet)
    t.timebase.mainsClass = .hz50 ∧ t.timebase.period = some 10000 ∧ t.timebase.windowStartRaised = true ∧
      t.timebase.halfCycle = 0 := by decide +kernel

/-- R86: a crossing at the very end of the span is accepted. -/
theorem test_crossing_at_span_end :
    (after (.zeroCrossing 111000) quiet).timebase.reference = some 111000 ∧
      (after (.zeroCrossing 111001) quiet).timebase.reference = some 100000 := by decide +kernel

/-- R87: a synthetic boundary keeps the phase. -/
theorem test_synthetic_boundary :
    (after .syntheticBoundary quiet).timebase.reference = some 110000 ∧
      (after .syntheticBoundary quiet).timebase.syntheticRun = 1 := by decide +kernel

/-- R88: the eighth synthetic boundary in a row sets MAINS_LOST. -/
theorem test_mains_lost_at_eight :
    (after .syntheticBoundary (withTime (fun b => { b with syntheticRun := 7 }) driving)).timebase.mainsLost = true := by
  decide +kernel

/-- R90: the hundredth boundary raises the second tick in class 50 Hz. -/
theorem test_second_tick_raised :
    (after (.zeroCrossing 110000) (withTime (fun b => { b with tickCount := 99 }) quiet)).timebase.secondTickRaised = true ∧
      (after (.zeroCrossing 110000) (withTime (fun b => { b with tickCount := 98 }) quiet)).timebase.secondTickRaised =
        false := by decide +kernel

/-! ### Probing (spec/01) -/

/-- 1.3.1: K = 13, P = 700 give coverage 40, a passed material check, floor 50 and presence PAN. -/
theorem test_probe_result_1_3_1 :
    let c := takeResult coilSetup 13 (some 700) { coil with coverage := 3, floor := 54 }
    c.coverage = 40 ∧ c.floor = 50 ∧ c.presence = .pan ∧ coilState c = .covered := by decide +kernel

/-- 1.3.1, the tray: K = 20, P = 590 give coverage 21, floor 59, NONFERROUS and BLOCKED. -/
theorem test_tray_result_1_3_1 :
    let c := takeResult coilSetup 20 (some 590) coil
    c.coverage = 21 ∧ c.floor = 59 ∧ c.presence = .nonferrous ∧ coilState c = .blocked := by decide +kernel

/-- 1.3.1: marks 0 to 26 are thirteen full cycles; 9,100 ticks over them make P = 700. -/
theorem test_ring_period_1_3_1 :
    let c : Capture := { phase := .ended, pulseEnd := 0, firstMark := 500, lastMark := 9600, marks := 27, cycleEnd := 9600 }
    c.ringCount = 13 ∧ c.ringPeriod = some 700 := by decide +kernel

/-- Table 1-1: the pairs are 0 and 6, 1 and 7, 2 and 4, 3 and 5. -/
theorem test_pairs : [0, 1, 2, 3].map (fun p => (firstCoil p, secondCoil p)) = [(0, 6), (1, 7), (2, 4), (3, 5)] := by decide

/-- R2: the pulses of the clamped width of 6 µs last 96 ticks; the window start in RUN begins the sweep with pair 0. -/
theorem test_window_start_begins_sweep :
    let t := after .windowStart (withTime (fun b => { b with windowStartRaised := true }) run)
    t.probe.sweep = some 0 ∧ t.probe.pulseTicks = 96 ∧ t.highPin 0 = true ∧ t.highPin 6 = true ∧ t.highPin 1 = false := by
  decide +kernel

/-- A pair 3 in flight: coil 3 rings empty, and coil 5's result is in. -/
def lastPair : State :=
  { run with
    probe :=
      { sweep := some 3
        unit0 := { phase := .ringing, pulseEnd := 0, firstMark := 500, lastMark := 18420, marks := 57, cycleEnd := 18420 }
        unit1 := { phase := .ended, pulseEnd := 0, firstMark := 500, lastMark := 9600, marks := 27, cycleEnd := 9600 }
        pulseTicks := 96 } }

/-- 1.3.1: when pair 3 completes, the sweep ends, and the update makes a new pan of coil 5 with tag 2.1 (R22, R31). -/
theorem test_last_pair_1_3_1 :
    let t := after (.ringDecayed 0) lastPair
    t.probe.sweep = none ∧ (t.coils.get 5).coverage = 40 ∧ (t.coils.get 5).floor = 50 ∧
      t.tracker.pans.map (fun f => (f.tag, f.coils, f.area, f.home)) = [({ creator := 2, serial := 1 }, [5], 40, true)] ∧
      t.tracker.serial = 2 := by decide +kernel

/-! ### Settings and programs (spec/03) -/

/-- The payload of 9.4.1: tag 6002h, revision 11, EACH_STEP, four steps of Table 3-5, each word by Table 9-4. -/
def setting62 : List Byte :=
  [0x60, 0x02, 11, 0x04, 0x3E, 0x80, 0x78, 0x00, 0x1E, 0x00, 0x28, 0x00, 0x0F, 0x00, 0x14, 0x48, 0x0A, 0x00, 0x3C, 0x00]

/-- Table 3-5. -/
def steps62 : List Machine.Step :=
  [{ target := 250, duration := 60, loop := none }, { target := 120, duration := 20, loop := none },
    { target := 60, duration := 10, loop := some { back := 1, count := 2 } }, { target := 40, duration := 30, loop := none }]

/-- 9.4.1: the worked encoding decodes to the steps of Table 3-5. -/
theorem test_setting_9_4_1 :
    decodeSetting setting62 =
      some { tag := some { creator := 6, serial := 2 }, revision := 11, mode := .eachStep, steps := steps62 } := by
  decide +kernel

/-- 9.4.1: the same frame with length 24 is malformed. -/
theorem test_setting_wrong_length : decodeSetting (setting62 ++ [0, 0, 0, 0]) = none := by decide +kernel

/-- Table 3-6, at ticks 60, 90, 100 and 150. -/
theorem test_progress_table_3_6 :
    let at_ := fun n => (tickProgram steps62)^[n] (startProgram 11 steps62)
    ((at_ 60).step, (at_ 60).remaining, (at_ 60).loop) = (1, 20, none) ∧
      ((at_ 90).step, (at_ 90).remaining, (at_ 90).loop) = (1, 20, some 1) ∧
      ((at_ 100).step, (at_ 100).remaining, (at_ 100).loop) = (1, 10, some 1) ∧
      ((at_ 150).step, (at_ 150).remaining, (at_ 150).loop) = (3, 30, none) := by decide +kernel

/-- Table 3-6, at tick 180: done at step 3, and not at tick 179. -/
theorem test_progress_done_at_180 :
    let at_ := fun n => (tickProgram steps62)^[n] (startProgram 11 steps62)
    at_ 180 = { revision := 11, step := 3, remaining := 0, loop := none, done := true } ∧ (at_ 179).done = false := by
  decide +kernel

/-- R47: a panel's setting is taken in RUN and discarded in QUIET. -/
theorem test_setting_taken_in_run :
    (after (.panSetting 9 setting62) run).cache.map (fun e => e.tag) = [{ creator := 6, serial := 2 }] ∧
      (after (.panSetting 9 setting62) quiet).cache = [] := by decide +kernel

/-! ### Power (spec/04) -/

/-- 4.9: the worked case, stage by stage. -/
theorem test_allocation_4_9 :
    driving.alloc.rawDemand = ⟨52, 37, 0, 0, 49, 24, 0, 0⟩ ∧ driving.alloc.demandSum = 162 ∧ driving.alloc.sinkCap = 600 ∧
      driving.alloc.moduleDemand = 162 ∧ driving.alloc.moduleMax = 600 ∧ driving.alloc.phaseSum = 449 ∧
      driving.alloc.moduleGrant = 133 ∧ driving.alloc.grant = ⟨42, 30, 0, 0, 40, 19, 0, 0⟩ := by decide +kernel

/-- 4.10: coil 0 HOT, sink at 107 °C. -/
theorem test_allocation_4_10 :
    let t := after .allocationPoint
      (withSense (fun n => { n with sinkTemp := some 107 }) (withCoil 0 (fun c => { c with overheat := true }) sharing))
    t.alloc.demandSum = 110 ∧ t.alloc.sinkCap = 60 ∧ t.alloc.moduleDemand = 60 ∧ t.alloc.moduleMax = 60 ∧
      t.alloc.moduleGrant = 60 ∧ t.alloc.grant = ⟨0, 20, 0, 0, 26, 13, 0, 0⟩ ∧ t.drive.leftMask = 3 := by decide +kernel

/-! ### Drive (spec/05) -/

/-- 5.7 and Table 4-10: densities, frequency 61 and shortfall 2. -/
theorem test_hand_over_5_7 :
    driving.drive.density = ⟨11, 10, 0, 0, 10, 10, 0, 0⟩ ∧ driving.drive.frequency = 61 ∧ driving.drive.published = 2 ∧
      driving.drive.role = .free := by decide +kernel

/-- Table 5-6: the slot patterns. -/
theorem test_patterns_5_6 :
    driving.drive.pattern.get 0 = [2, 3, 5, 6, 7, 9, 10, 11, 13, 14, 15] ∧
      driving.drive.pattern.get 1 = [1, 3, 4, 6, 7, 9, 10, 12, 13, 15] ∧
      driving.drive.pattern.get 4 = [1, 3, 4, 6, 7, 9, 10, 12, 13, 15] ∧
      driving.drive.pattern.get 5 = [1, 2, 4, 5, 7, 8, 10, 11, 13, 14] := by decide +kernel

/-- 5.7: a drive period of 2,098 ticks; the high side is on from 64 to 985, the low side from 1,113 to 2,034. -/
theorem test_gates_5_7 :
    drivePeriod 61 = 2098 ∧ halfPeriod 61 = 1049 ∧
      (after (.driveCounterMatch 64) driving).highPin 1 = true ∧ (after (.driveCounterMatch 985) driving).highPin 1 = false ∧
      (after (.driveCounterMatch 1113) driving).lowPin 1 = true ∧
      (after (.driveCounterMatch 2034) driving).lowPin 1 = false := by decide +kernel

/-- 5.7, an overcurrent of coil 4 in slot 9: cut loss 19, FAULTED. -/
theorem test_overcurrent_5_7 :
    let s := (withTime (fun b => { b with halfCycle := 9 }) driving).startDrive
    let t := after (.currentSample 4 262 1201) s
    t.drive.cutLoss = 19 ∧ t.drive.density.get 4 = 0 ∧ coilState (t.coils.get 4) = .faulted ∧ t.drive.density.get 0 = 11 := by
  decide +kernel

/-- Table 5-4, on n* at the edges of its rows. -/
theorem test_frequency_steps :
    (stepFrequency 30 60, stepFrequency 29 60, stepFrequency 16 60, stepFrequency 15 60, stepFrequency 12 60,
      stepFrequency 11 60) = (56, 59, 59, 60, 60, 61) := by decide

/-! ### Lock (spec/06) -/

/-- Module 3 of 6.8: its left coils 1 face a leader at 54 under its own lock floor 60. -/
def following (role : LockRole) (counter : Nat) (leader : Nat) (age : Nat) : State :=
  { sharing with
    coils := (sharing.coils.update 1 fun c => { c with floor := 52 }).update 5 fun c => { c with floor := 60 }
    drive := { sharing.drive with role := role, pendingCounter := counter }
    link :=
      { sharing.link with
        roster := sharing.link.roster.set 1 { content := some (status .a 40 200 leader 2), age := age } } }

/-- Table 6-4, h+3 to h+4: PENDING 4 becomes REFUSED 4 and holds coil 1, not coil 0, which faces no row of the leader. -/
theorem test_refused_6_8 :
    let t := after .allocationPoint (following .pending 4 54 0)
    t.drive.role = .refused ∧ t.drive.pendingCounter = 4 ∧ (t.coils.get 1).held = true ∧ (t.coils.get 0).held = false ∧
      t.drive.density.get 1 = 0 ∧ t.drive.frequency = 60 ∧ t.drive.lockFloor = 60 := by decide +kernel

/-- Table 6-4, h+6: a leader at 60 meets the lock floor; the role is FOLLOWING, at the leader's frequency. -/
theorem test_following_6_8 :
    let t := after .allocationPoint (following .refused 4 60 1)
    t.drive.role = .following ∧ t.drive.pendingCounter = 0 ∧ (t.coils.get 1).held = false ∧ t.drive.frequency = 60 := by
  decide +kernel

/-! ### Measurement (spec/07) -/

/-- 7.3.4: 2,441 pairs that sum to 153,650,000 make a half-cycle power of 79. -/
theorem test_half_cycle_power_7_3_4 : halfCyclePower { inFlight := true, sum := 153650000, count := 2441 } = some 79 := by decide

/-- Table 7-4, at the edges of its rows. -/
theorem test_temperature_codes :
    [127, 128, 399, 400, 3600, 3601, 3968, 3969].map (fun c => temperatureOf (BitVec.ofNat 12 c)) =
      [none, some 0, some 0, some 0, some 300, some 300, some 300, none] := by decide +kernel

/-- Table 7-7: the timer falls 4, 3, 1, 0 over the windows and the retries stay while the coil is not driven. -/
theorem test_fault_record_7_6 :
    let c := faultCoil { coveredCoil 40 with drivenInWindow := true }
    (c.faultTimer, c.faultRetries, coilState c) = (4, 1, .faulted) ∧
      ((cleanWindow (tickFault c)).faultTimer, (cleanWindow (tickFault c)).faultRetries) = (3, 1) := by decide +kernel

/-! ### The link (spec/08, spec/09) -/

/-- 8.11: the contention fields of module 3's FRAGMENT and module 2's MODULE_STATUS. -/
theorem test_contention_fields_8_11 :
    contentionField 2 3 3 = [false, true, false, false, true, true, false, false, true, true] ∧
      contentionField 1 4 2 = [true, false, false, true, false, false, false, false, true, false] := by decide

/-- 8.11: after its start mark and four dominant bits the panel's frame has a recessive filler bit. -/
theorem test_filler_8_11 :
    (wireBits 3 2 9 []).take 7 = [false, false, false, false, false, true, true] := by decide +kernel

/-- R132: the check of the nine characters 123456789 is 29B1h, as published for this generator and start value. -/
theorem test_check_value :
    crc ([49, 50, 51, 52, 53, 54, 55, 56, 57].flatMap (bitsOf 8)) = 0x29B1#16 := by decide +kernel

/-- 9.5.1: the report of module 3 as its table gives it. -/
theorem test_report_9_5_1 :
    decodeFragment [0x20, 0x07, 0, 112, 60, 52, 0, 0, 0, 0, 0, 0, 4, 1, 0, 14, 0, 0, 120, 0x88] =
      some (.report { peer3.report with
        published := some { program := { revision := 4, step := 1, remaining := 14, loop := none, done := false },
                            target := 120 } }) := by decide +kernel

/-- 9.5.1: area 120 with coverages that sum to 112 is malformed. -/
theorem test_report_malformed_9_5_1 :
    decodeFragment [0x20, 0x07, 0, 120, 60, 52, 0, 0, 0, 0, 0, 0, 4, 1, 0, 14, 0, 0, 120, 0x88] = none := by decide +kernel

/-- Table 9-6, byte by byte, for a RUN module on phase B after a dip with D 162, G 133, M 600, f 61, FREE, floor 44. -/
theorem test_status_bytes :
    decodeStatus [0x7C, 0, 162, 0, 133, 2, 0x58, 61, 0, 44, 0x31, 0, 0, 1, 2, 3, 4, 5, 0, 2] =
      some { status .b 162 600 61 1 with
        causeCode := 3, grant := 133, leftMask := 3, losses := 1, rejects := 2, unheard := 3, dropped := 4, malformed := 5,
        shortfall := 2 } := by decide +kernel

/-- The queue of Table 8-4. -/
def queue84 : List QueueEntry :=
  [{ key := .notice (some tag27) .step, level := 0, payload := [1], contending := false, replacement := none },
    { key := .fragment tag27, level := 2, payload := [2], contending := false, replacement := none },
    { key := .status, level := 1, payload := [3], contending := false, replacement := none }]

/-- Table 8-4: FRAGMENT 2.7 is selected. -/
theorem test_selection_8_11 :
    (after .lineIdle (withLink (fun l => { l with queue := queue84 }) run)).link.queue.map (fun e => e.contending) =
      [false, true, false] := by decide +kernel

/-- 8.11: a replacement held while contending waits at the end of the order after the win. -/
theorem test_replacement_8_11 :
    let s := withLink (fun l => { l with queue := markContending (.fragment tag27) queue84 }) run
    let t := after .contentionWon (s.hand (.fragment tag27) 2 [9])
    t.link.queue.map (fun e => e.payload) = [[1], [3], [9]] ∧ t.link.sending.map (fun f => f.payload) = some [2] := by
  decide +kernel

/-! ### Module states (spec/10) -/

/-- R164: ON takes QUIET to RUN; STANDBY takes RUN to QUIET, with the pans forgotten. -/
theorem test_panel_moves_state :
    (after (.panelState 9 [1]) quiet).sup.state = .run ∧ (after (.panelState 9 [2]) sharing).sup.state = .quiet ∧
      (after (.panelState 9 [2]) sharing).tracker.pans = [] := by decide +kernel

/-- R166, R168: an assertion takes RUN to STOPPED with cause EXTERNAL, the release back to RUN. -/
theorem test_stop_and_release :
    let t := after .stopLineAssertion driving
    t.sup.state = .stopped ∧ t.sup.stopCause = .external ∧ t.drive.density = Eight.fill 0 ∧
      (after .stopLineRelease t).sup.state = .run := by decide +kernel

/-- R140, R170: a clash silences the module, which drives the stop line. -/
theorem test_clash_silences : (after .positionClash driving).sup.state = .silent ∧
    (after .positionClash driving).stopAsserted = true := by decide +kernel

/-! ### Tracking (spec/02) -/

/-- A module in RUN with the given covered coils, pan table and peer table. -/
def tracking (position : Position) (serial : Fin 4096) (coverages : Eight Nat) (pans : List Fragment) (peers : List PeerEntry) :
    State :=
  { run with
    coils := coverages.map fun c => if c < 16 then { coil with coverage := c } else coveredCoil c
    tracker := { pans := pans, lifted := [], serial := serial }
    cache := [entry27]
    link := { run.link with peers := peers }
    sup := { run.sup with position := position } }

/-- Module 2's report of 2.6, window n. -/
def peer2 : PeerEntry :=
  { source := 2
    report :=
      { tag := tag27, area := 240, edge := ⟨64, 56, 0, 0, 64, 56, 0, 0⟩
        published := some { program := { program27 with remaining := 5 }, target := 250 }, home := true, contact := false }
    age := 1 }

/-- 2.6, window n+1, module 3: tag 2.7 CARRIED, area 112, not home, the program taken from the home report; no notice. -/
theorem test_slide_module_3_2_6 :
    let t := (tracking 3 9 ⟨60, 52, 0, 0, 4, 3, 0, 0⟩ [] [peer2]).trackingUpdate
    t.tracker.pans.map (fun f => (f.tag, f.coils, f.area, f.origin, f.home)) = [(tag27, [0, 1], 112, .carried, false)] ∧
      t.tracker.pans.map (fun f => f.program.isSome) = [true] ∧
      t.link.queue.map (fun e => e.key) = [.fragment tag27] := by decide +kernel

/-- Module 2 after its update of window n+2 of 2.6. -/
def slid : State :=
  (tracking 2 8 ⟨1, 0, 0, 0, 12, 9, 0, 0⟩
    [{ pan27 with coils := [4, 5], area := 120, edge := ⟨0, 0, 0, 0, 64, 56, 0, 0⟩ }] [peer3]).trackingUpdate

/-- 2.6, window n+2, module 2: 2.7 vanished and enters the lifted list unconfirmed; only the closed report is queued. -/
theorem test_slide_module_2_2_6 :
    slid.tracker.pans = [] ∧
      slid.tracker.lifted =
        [{ tag := tag27, footprint := [4, 5], program := some program27, grace := 8, wasHome := true, cause := .lifted,
           confirmed := false }] ∧
      slid.link.queue.map (fun e => (e.key, e.payload)) = [(.fragment tag27, encodeClosed tag27)] := by decide +kernel

/-- 2.6, after that update: module 3's report of 2.7 removes the unconfirmed entry with no notice (R41). -/
theorem test_departed_2_6 :
    let t := after (.fragment 3 (encodeReport peer3.report)) slid
    t.tracker.lifted = [] ∧ t.link.queue = slid.link.queue ∧ t.link.peers.map (fun e => e.age) = [0] := by decide +kernel

/-- 2.6.1: the closed report of the other module confirms the entry and requests LIFTED. -/
theorem test_confirmed_2_6_1 :
    let t := after (.fragment 3 (encodeClosed tag27)) slid
    t.tracker.lifted.map (fun e => e.confirmed) = [true] ∧
      t.link.queue.map (fun e => e.key) = [.fragment tag27, .notice (some tag27) .lifted] := by decide +kernel

/-- 2.7, update m+1, module 3: own tag 3.9 gives way to the lower 2.3, is reported closed, and leaves no lifted entry. -/
theorem test_seniority_2_7 :
    let own : Fragment :=
      { pan27 with tag := { creator := 3, serial := 9 }, coils := [2, 3], area := 82, edge := ⟨0, 0, 44, 38, 0, 0, 0, 0⟩,
                   program := none }
    let peer : PeerEntry :=
      { source := 2
        report := { tag := { creator := 2, serial := 3 }, area := 76, edge := ⟨0, 0, 0, 0, 0, 0, 40, 36⟩, published := none,
                    home := true, contact := false }
        age := 1 }
    let t := (tracking 3 10 ⟨0, 0, 44, 38, 0, 0, 0, 0⟩ [own] [peer]).trackingUpdate
    t.tracker.pans.map (fun f => (f.tag, f.origin, f.home)) = [({ creator := 2, serial := 3 }, .carried, true)] ∧
      t.tracker.lifted = [] ∧
      t.link.queue.map (fun e => e.key) =
        [.fragment { creator := 2, serial := 3 }, .fragment { creator := 3, serial := 9 }] := by decide +kernel

/-! ### Witnesses: a state and operands that meet the hypotheses of each statement, clause by clause at its bounds -/

theorem witness_StepTakesFrontCommand : State.reset.pending = [] := rfl

theorem witness_HeldDeviceIgnoresCommands :
    State.reset.sup.held = true ∧ (∀ x, Instr.windowStart ≠ .reset x) ∧ (∀ x, Instr.windowStart ≠ .endOfReset x) ∧
      Instr.windowStart ≠ .stopLineAssertion ∧ Instr.windowStart ≠ .stopLineRelease :=
  ⟨rfl, by simp, by simp, by simp, by simp⟩

theorem witness_ResetBeginsOrExtends : driving.sup.held = false ∧ State.reset.sup.held = true := by decide +kernel

theorem witness_ResetValuesOfSupervisorAndSense : driving.sup.held = false := by decide +kernel

/-- O6, with the bits of the read command on SMO. -/
theorem witness_EndOfResetRecordsCauseAndStraps :
    State.reset.sup.held = true ∧ State.reset.scsHigh = true ∧ (after (.endOfReset 3) State.reset).scsHigh = false ∧
      numberOf (after (.endOfReset 3) State.reset).smoBits = 0x030000 := by decide +kernel

theorem witness_SetupCodeIsLowestFailingField :
    setupFaultCode image = 0 ∧ setupFaultCode (image.set 127 0) ≠ 0 := by decide +kernel

/-- The setup memory is being read. -/
def reading : State := after (.endOfReset 3) State.reset

/-- O7: Table 11-1's first and second boards; coil 4 of 9.8.1 is unfitted and its zeros fail no field. -/
theorem witness_SetupCodeIsLowestFailingField_fields :
    (1, false) ∈ judgedFields (List.replicate 128 0xFF) ∧ (67, false) ∈ judgedFields (image.set 84 25) ∧
      ∀ n, 56 ≤ n → n ≤ 64 → (n, false) ∉ judgedFields image := by decide +kernel

theorem witness_SetupReadEndJudgesTheImage :
    reading.sup.held = false ∧ reading.sup.reading = true ∧ setupFaultCode image = 0 ∧
      setupFaultCode (image.set 127 0) ≠ 0 := by decide +kernel

theorem witness_LoadingExitEntersQuietOrStopped :
    let s := inState .loading quiet
    let stopped := withSup (fun u => { u with stopExternal := true }) s
    (s.sup.held = false ∧ s.sup.state = .loading ∧ s.setupGood = true ∧ s.timebase.mainsClass ≠ .unknown ∧
        s.sup.stopExternal = false ∧ s.sup.overvoltageDrive = false) ∧
      (stopped.sup.held = false ∧ stopped.sup.state = .loading ∧ stopped.setupGood = true ∧
        stopped.timebase.mainsClass ≠ .unknown ∧ stopped.sup.stopExternal = true ∧ stopped.sup.overvoltageDrive = false) := by
  decide +kernel

/-- A class measurement of `n` crossings whose last came at 64 ms. -/
def measuring (n first : Nat) : State :=
  withTime (fun b => { b with mainsClass := .unknown, measCount := n, measFirst := first, measPrev := 64000 }) quiet

/-- O10 at its bounds: the noise ends 5,000 µs after the last crossing; the means 7,499 and 11,001 lie outside, 7,500, 8,999,
9,000 and 11,000 inside. -/
theorem witness_CrossingMeasuresTheClass :
    (measuring 0 0).sup.held = false ∧ (measuring 0 0).timebase.mainsClass = .unknown ∧ (measuring 0 0).timebase.measCount = 0 ∧
      68999 < (measuring 3 0).timebase.measPrev + 5000 ∧ (measuring 3 0).timebase.measPrev + 5000 ≤ 69000 ∧
      0 < (measuring 3 0).timebase.measCount ∧ (measuring 6 0).timebase.measCount < 7 ∧
      (measuring 7 4000).timebase.measCount = 7 ∧
      ((74000 - 21507) / 7 < 7500 ∧ 7500 ≤ (74000 - 21500) / 7 ∧ (74000 - 11007) / 7 = 8999 ∧ 9000 ≤ (74000 - 11000) / 7 ∧
        (81000 - 4000) / 7 ≤ 11000 ∧ 11000 < (81007 - 4000) / 7) ∧
      (after (.zeroCrossing 74000) (measuring 7 11007)).timebase.mainsClass = .hz60 ∧
      (after (.zeroCrossing 74000) (measuring 7 11000)).timebase.mainsClass = .hz50 ∧
      (after (.zeroCrossing 74000) (measuring 7 21507)).timebase.measCount = 1 ∧
      (after (.zeroCrossing 81007) (measuring 7 4000)).timebase.measCount = 1 := by decide +kernel

/-- O11 at its bounds: with reference 100,000 and period 10,000 the span is 109,000 to 111,000. -/
theorem witness_CrossingInSpanIsABoundary :
    quiet.sup.held = false ∧ quiet.timebase.mainsClass ≠ .unknown ∧ quiet.timebase.reference = some 100000 ∧
      quiet.timebase.period = some 10000 ∧ 108999 < 100000 + 10000 - 10000 / 10 ∧ 100000 + 10000 + 10000 / 10 < 111001 ∧
      (after (.zeroCrossing 108999) quiet).timebase.halfCycle = 0 ∧
      (after (.zeroCrossing 109000) quiet).timebase.halfCycle = 1 ∧
      (after (.zeroCrossing 111000) quiet).timebase.period = some 11000 := by decide +kernel

/-- Coil 0 closes the half-cycle of slot 2 of Table 7-3, coil 4 one of 10 units, below a quarter of its 58. -/
def closing : State :=
  withSense
    (fun n =>
      { n with
        bus := 650
        acc :=
          (n.acc.set 0 { inFlight := true, sum := 153650000, count := 2441 }).set 4 { inFlight := true, sum := 32000, count := 4 } })
    (withTime (fun b => { b with halfCycle := 2 }) driving)

theorem closing_settled : closing.Settled := by constructor <;> decide +kernel

/-- O11, O12 where a half-cycle is closed: a usable one, one that raises LIFT, and the same under a sagging bus. -/
theorem witness_CrossingInSpanIsABoundary_closing :
    closing.Settled ∧ closing.FormsPower 0 79 ∧ closing.Lifts 4 ∧ closing.timebase.halfCycle ≠ 0 ∧
      (let t := after (.zeroCrossing 110000) closing
      t.sense.window.get 0 = { sum := 79, number := 1 } ∧ (t.coils.get 0).liftSuspected = false ∧
        (t.coils.get 4).liftSuspected = true ∧ t.drive.density.get 4 = 0 ∧ t.sense.window.get 4 = { sum := 0, number := 0 } ∧
        t.drive.driven.get 0 = true ∧ t.drive.driven.get 4 = false) ∧
      (let t := after .syntheticBoundary (withSense (fun n => { n with bus := 299 }) closing)
      t.sense.window.get 0 = { sum := 0, number := 0 } ∧ (t.coils.get 4).liftSuspected = false) :=
  ⟨closing_settled, by unfold State.FormsPower; decide +kernel, ⟨10, by unfold State.FormsPower; decide +kernel⟩, by decide +kernel, by decide +kernel, by decide +kernel⟩

theorem witness_SyntheticBoundaryKeepsThePhase :
    let s := withTime (fun b => { b with syntheticRun := 7 }) driving
    s.sup.held = false ∧ s.timebase.mainsClass ≠ .unknown ∧ s.timebase.reference = some 100000 ∧
      s.timebase.period = some 10000 ∧ s.timebase.mainsLost = false ∧ 7 ≤ s.timebase.syntheticRun := by decide +kernel

/-- O12 on the counters (R89, R90): the synthetic boundary after slot 15, the 120th at 60 Hz, and the one after slot 0. -/
theorem witness_SyntheticBoundaryKeepsThePhase_counters :
    let raised := fun (c : MainsClass) (slot : Fin 16) (n : Nat) =>
      let t := (after .syntheticBoundary (withTime (fun b => { b with mainsClass := c, halfCycle := slot, tickCount := n }) quiet)).timebase
      (t.windowStartRaised, t.allocationRaised, t.secondTickRaised, t.tickCount)
    raised .hz50 15 99 = (true, false, true, 0) ∧ raised .hz60 15 99 = (true, false, false, 100) ∧
      raised .hz60 0 119 = (false, true, true, 0) ∧ raised .hz50 7 41 = (false, false, false, 42) := by decide +kernel

/-- O12 where the eighth in a row both closes a half-cycle, with a LIFT of coil 4, and sets MAINS_LOST with all drive cut. -/
theorem witness_SyntheticBoundaryKeepsThePhase_lost :
    let s := withTime (fun b => { b with syntheticRun := 7 }) closing
    let t := after .syntheticBoundary s
    s.Settled ∧ s.timebase.mainsLost = false ∧ (t.coils.get 4).liftSuspected = true ∧ t.sense.window.get 0 = { sum := 79, number := 1 } ∧
      t.drive.density = Eight.fill 0 ∧ t.drive.driven = Eight.fill false :=
  ⟨by constructor <;> decide +kernel, by decide +kernel, by decide +kernel, by decide +kernel, by decide +kernel, by decide +kernel⟩

theorem witness_InhibitOnsetsCutAllDrive :
    let lost := withTime (fun b => { b with syntheticRun := 7 }) driving
    let blocked := withLink (fun l => { l with blockedCount := 4 }) driving
    let back := withTime (fun b => { b with acceptedRun := 3, mainsLost := true }) driving
    (lost.sup.held = false ∧ 7 ≤ lost.timebase.syntheticRun ∧ lost.timebase.mainsLost = false) ∧
      (blocked.sup.held = false ∧ blocked.link.queue ≠ [] ∧ blocked.link.wonInWindow = false ∧ blocked.link.blockedCount = 4) ∧
      (back.sup.held = false ∧ 3 ≤ back.timebase.acceptedRun ∧ back.timebase.mainsLost = true) := by decide +kernel

/-- A window start in RUN with a status waiting; the blocked count at `n`. -/
def opening (n : Nat) : State :=
  withLink (fun l => { l with blockedCount := n }) (withTime (fun b => { b with windowStartRaised := true, halfCycle := 0 }) driving)

/-- O14 by clause: a window without a win at counts 3 and 4, one with a win, an empty queue, RUN, STOPPED with a frozen fragment, and
QUIET. -/
theorem witness_WindowStartAgesAndMeasures :
    let won := withLink (fun l => { l with wonInWindow := true }) (opening 3)
    let empty := withLink (fun l => { l with queue := [] }) (opening 3)
    let frozen := inState .stopped empty
    (opening 3).sup.held = false ∧ (opening 3).timebase.windowStartRaised = true ∧ (opening 4).link.queue ≠ [] ∧
      (opening 4).link.wonInWindow = false ∧ (opening 3).link.blockedCount ≤ 3 ∧ 4 ≤ (opening 4).link.blockedCount ∧
      (opening 4).link.linkBlocked = false ∧ (opening 4).agedHanded.queue ≠ [] ∧
      (after .windowStart (opening 3)).link.linkBlocked = false ∧
      (after .windowStart (opening 4)).link.linkBlocked = true ∧ (after .windowStart won).link.blockedCount = 3 ∧
      empty.agedHanded.queue = [] ∧ (after .windowStart empty).link.blockedCount = 0 ∧
      ((opening 3).sup.state = .run ∧ ((opening 3).coils.get 0).fitted = true) ∧
      (after .windowStart frozen).link.queue.map (fun e => e.key) = [.fragment tag27] ∧
      (after .windowStart (inState .quiet empty)).link.queue = [] := by decide +kernel

/-- O14 with unfitted coils (R1): pair 0 passed over, pair 1 with one coil, and no coil at all, where the update runs at once. -/
theorem witness_WindowStartAgesAndMeasures_pairs :
    let t := fun unfitted => after .windowStart (without unfitted (opening 3))
    (t [0, 6]).probe.sweep = some 1 ∧ (t [0, 6]).pulseOn 7 = true ∧
      ((t [0, 1, 6]).probe.sweep, (t [0, 1, 6]).probe.unit0.phase, (t [0, 1, 6]).probe.unit1.phase) = (some 1, .ended, .pulse) ∧
      (∀ i, ((without allCoils (opening 3)).coils.get i).fitted = false) ∧ (t allCoils).probe.sweep = none ∧
      (t allCoils).tracker.pans = [] := by decide +kernel

/-- O14 at the fifth window without a win (R102, R145): every coil is cut, in slot 0 with no slot left to count; the cache, the lock role
and the frequency stay; and a sixth such window changes the count no more. -/
theorem witness_WindowStartAgesAndMeasures_blocked :
    let s := opening 4
    let t := after .windowStart s
    let u := after .windowStart (withTime (fun b => { b with windowStartRaised := true }) t)
    0 < s.drive.density.get 0 ∧ (s.coils.get 0).heating = true ∧ t.link.blockedCount = 5 ∧ t.drive.density = Eight.fill 0 ∧
      t.drive.driven = Eight.fill false ∧ (∀ i, (t.coils.get i).heating = false) ∧ t.drive.cutLoss = s.drive.cutLoss ∧
      t.cache = s.cache ∧ (t.drive.role, t.drive.frequency) = (s.drive.role, s.drive.frequency) ∧
      (u.link.blockedCount, u.link.linkBlocked) = (5, true) ∧ (after .windowStart (opening 3)).drive = (opening 3).drive := by
  decide +kernel

/-- O14 on the ageing (R42, R148): in RUN the last report of tag 2.7, at age 3, leaves with the notice of the lifted entry it confirms,
and a second of the same tag hands no second notice; one at age 2 keeps the entry as it stands; in STOPPED none is confirmed. -/
theorem witness_WindowStartAgesAndMeasures_aged :
    let raise := withTime (fun b => { b with windowStartRaised := true })
    let two := raise (withLink (fun l => { l with peers := [{ peer3 with age := 3 }, { peer3 with source := 1, age := 3 }] }) slid)
    let young := raise (withLink (fun l => { l with peers := [{ peer3 with age := 2 }, { peer3 with source := 1, age := 3 }] }) slid)
    let lifted := fun (s : State) => (after .windowStart s).tracker.lifted.map fun e => e.confirmed
    two.closedByAge = [tag27] ∧ young.closedByAge = [] ∧ (lifted two, lifted young, lifted (inState .stopped two)) =
        ([true], [false], [false]) ∧
      keys (after .windowStart two) = keys slid ++ [.notice (some tag27) .lifted] ∧ keys (after .windowStart young) = keys slid := by
  decide +kernel

theorem witness_FaultEndFreesTheCoil :
    let s := withCoil 4 (fun c => { c with faultTimer := 1, faultRetries := 2 }) driving
    s.sup.held = false ∧ (s.coils.get 4).faultTimer = 1 ∧ (s.coils.get 4).faultRetries < 3 := by decide +kernel

/-- Module 2 of 2.6 with its lifted entry, module 3's report at age 3. -/
def ageing : State := withLink (fun l => { l with peers := [{ peer3 with age := 3 }] }) slid

theorem witness_PeerAgeOutConfirmsLiftedEntries :
    ageing.sup.held = false ∧ (∃ e ∈ ageing.link.peers, e.source = 3 ∧ e.report.tag = tag27) ∧
      (∀ e ∈ ageing.link.peers, e.source = 3 → e.report.tag = tag27 → e.age = 3) ∧
      (after (.peerFragmentAgeOut 3 tag27) ageing).tracker.lifted.map (fun e => e.confirmed) = [true] ∧
      keys (after (.peerFragmentAgeOut 3 tag27) ageing) = keys ageing ++ [.notice (some tag27) .lifted] ∧
      keys (after (.peerFragmentAgeOut 3 tag27) (inState .stopped ageing)) = keys ageing := by decide +kernel

/-- A conversion in flight in the probe slot of a heated window: coil 0 unfitted, coil 1 with a sensor fault, coil 2 recovering,
coil 3 absent. -/
def converting : State :=
  withSense (fun n => { n with converting := true })
    (withCoil 0 (fun c => { c with fitted := false })
      (withCoil 1 (fun c => { c with sensorFault := true, recovery := 0 })
        (withCoil 2 (fun c => { c with sensorFault := true, recovery := 1 }) (withCoil 3 (fun c => { c with temperature := none })
          driving))))

/-- O17 by clause: codes 127 and 128 are a fault and 0 °C, 2960 is 240 °C, the hard limit, and 2950 is 239 °C, below it. -/
theorem witness_TemperatureReadingsSetTheRecords :
    converting.sup.held = false ∧ converting.sense.converting = true ∧ (converting.coils.get 0).fitted = false ∧
      ((converting.coils.get 1).fitted = true ∧ (converting.coils.get 1).sensorFault = true ∧
        (converting.coils.get 1).recovery = 0) ∧
      ((converting.coils.get 2).sensorFault = true ∧ (converting.coils.get 2).recovery = 1) ∧
      ((converting.coils.get 3).temperature = none ∧ (converting.coils.get 4).sensorFault = false) ∧
      temperatureOf 127 = none ∧ temperatureOf 128 = some 0 ∧ temperatureOf 2960 = some 240 ∧ temperatureOf 2950 = some 239 ∧
      converting.sense.sinkHot = false ∧
      (after (.temperatureReadings (Eight.fill 128) 127) converting).sense.sinkHot = true ∧
      (after (.temperatureReadings (Eight.fill 2960) 128) converting).coils.toList.map (fun c => c.overheat) =
        [false, false, true, true, true, true, true, true] := by decide +kernel

/-! Probing -/

/-- O17 where a coil is cut and the others go on: coil 4 at 240 °C, the rest and the sink at 28 °C. -/
theorem witness_TemperatureReadingsSetTheRecords_one_coil :
    let cool : State := withSense (fun n => { n with converting := true }) driving
    let t := after (.temperatureReadings ((Eight.fill 700).set 4 2960) 700) cool
    cool.sup.held = false ∧ cool.sense.converting = true ∧ 0 < cool.drive.density.get 4 ∧ t.drive.density.get 4 = 0 ∧
      t.drive.density.get 0 = cool.drive.density.get 0 ∧ (t.coils.get 4).heating = false ∧ t.sense.sinkHot = false := by
  decide +kernel

/-- Pair 3 in its pulse. -/
def pulsing : State :=
  { run with
    probe :=
      { sweep := some 3, unit0 := { Capture.off with phase := .pulse }, unit1 := { Capture.off with phase := .pulse }
        pulseTicks := 96 } }

/-- Pair 3 ringing from 1,000 with `n` marks on RD0, the last at 2,000. -/
def ringing (n : Nat) : State :=
  { run with
    probe :=
      { sweep := some 3
        unit0 := { phase := .ringing, pulseEnd := 1000, firstMark := 1200, lastMark := 2000, marks := n, cycleEnd := 2000 }
        unit1 := { Capture.off with phase := .ringing, pulseEnd := 1000 }
        pulseTicks := 96 } }

/-- O18 at its bounds: 1,099 and 2,099 are noise, 1,100 and 2,100 are accepted; mark 62 ends the probe, and the pair where the
partner has ended. -/
theorem witness_RingMarkIsNoiseOrCounts :
    let last := { ringing 62 with probe := { (ringing 62).probe with unit1 := { Capture.off with phase := .ended } } }
    (ringing 0).sup.held = false ∧ ((ringing 0).probe.capture 0).phase = .ringing ∧
      1099 < ((ringing 0).probe.capture 0).pulseEnd + 100 ∧ ((ringing 0).probe.capture 0).pulseEnd + 100 ≤ 1100 ∧
      ((ringing 5).probe.capture 0).marks ≠ 0 ∧ 2099 < ((ringing 5).probe.capture 0).lastMark + 100 ∧
      ((ringing 5).probe.capture 0).lastMark + 100 ≤ 2100 ∧ ((ringing 62).probe.capture (1 - 0)).phase ≠ .ended ∧
      ((after (.ringMark 0 2100) (ringing 61)).probe.capture 0).phase = .ringing ∧
      ((after (.ringMark 0 2100) (ringing 62)).probe.capture 0).phase = .ended ∧
      ((last.probe.capture 0).phase = .ringing ∧ (last.probe.capture 0).marks = 62 ∧ (last.probe.capture (1 - 0)).phase = .ended) ∧
      (after (.ringMark 0 2100) last).probe.sweep = none := by decide +kernel

/-- O18 on K and P at their bounds (R3, R4): no full cycle before mark 2, no period before mark 4, and at most 2,000 ticks. -/
theorem witness_RingMarkIsNoiseOrCounts_period :
    let c := fun n => ({ phase := .ended, pulseEnd := 0, firstMark := 500, lastMark := 9600, marks := n, cycleEnd := 9600 } : Capture)
    [0, 2, 3, 4, 5, 27, 63].map (fun n => (c n).ringCount) = [0, 0, 1, 1, 2, 13, 31] ∧
      [0, 3, 4, 5, 27].map (fun n => (c n).ringPeriod) = [none, none, none, some 2000, some 700] := by decide

/-- O19 with both coils of the pair fitted, and with coil 5 unfitted. -/
theorem witness_ProbesRingAndEnd :
    let half := { pulsing with probe := { pulsing.probe with unit1 := { Capture.off with phase := .ended } } }
    (pulsing.sup.held = false ∧ pulsing.probe.unit0.phase = .pulse ∧ pulsing.probe.unit1.phase = .pulse) ∧
      (after (.probePulseEnd 9) half).probe.unit0 = { Capture.off with phase := .ringing, pulseEnd := 9 } ∧
      (after (.probePulseEnd 9) half).probe.unit1 = half.probe.unit1 ∧
      (ringing 5).sup.held = false ∧ ((ringing 5).probe.capture 0).phase = .ringing ∧
      ((ringing 5).probe.capture (1 - 0)).phase ≠ .ended := by decide

/-- Pair 0 in flight as pair 3 of `lastPair`. -/
def firstPair : State := { lastPair with probe := { lastPair.probe with sweep := some 0 } }

/-- O20: pair 3 completes by decay, by the time limit and by mark 62, and pair 0 completes before a pair of fitted coils. -/
theorem witness_PairCompletionWritesTheRecords :
    let full := { lastPair with probe := { lastPair.probe with unit0 := { lastPair.probe.unit0 with marks := 62 } } }
    (lastPair.sup.held = false ∧ lastPair.probe.sweep = some 3 ∧ (lastPair.probe.capture 0).phase = .ringing ∧
        (lastPair.probe.capture (1 - 0)).phase = .ended) ∧
      (∀ i, undrivable (coilState (lastPair.coils.get i)) = true → lastPair.drive.density.get i = 0) ∧
      (firstPair.probe.sweep = some 0 ∧ (firstPair.coils.get (firstCoil (0 + 1))).fitted = true) ∧
      (after (.timeLimit 0) firstPair).probe.sweep = some 1 ∧ (full.probe.capture 0).lastMark + 100 ≤ 18520 ∧
      (after (.ringMark 0 18520) full).probe.sweep = none ∧
      ((after (.ringMark 0 18520) full).coils.get 3).coverage = probeCoverage coilSetup 31 := by decide +kernel

/-- O20 with unfitted coils: the pair passed over, the pair of one coil, the partner that writes nothing, and no later pair. -/
theorem witness_PairCompletionWritesTheRecords_pairs :
    let t := fun unfitted => after (.ringDecayed 0) (without unfitted firstPair)
    (t [1, 7]).probe.sweep = some 2 ∧
      ((t [1]).probe.sweep, (t [1]).probe.unit0.phase, (t [1]).probe.unit1.phase) = (some 1, .ended, .pulse) ∧
      ((t [6]).coils.get 6).coverage = 0 ∧ ((t []).coils.get 6).coverage = 40 ∧
      (t [1, 2, 3, 4, 5, 7]).probe.sweep = none ∧ (t [1, 2, 3, 4, 5, 7]).tracker.pans.map (fun f => f.coils) = [[6]] := by
  decide +kernel

/-- Pair 0 of the heated window of 5.7 at 56 kHz: coil 6 rings empty, and coil 0 rings `k` full cycles of `p` ticks (1.3.1). -/
def heatedPair (k p : Nat) : State :=
  withDrive (fun d => { d with frequency := 56 })
    { driving with
      probe :=
        { sweep := some 0
          unit0 := { phase := .ended, pulseEnd := 0, firstMark := 500, lastMark := 0, marks := 2 * k + 1, cycleEnd := 500 + k * p }
          unit1 := { lastPair.probe.unit0 with phase := .ringing }
          pulseTicks := 96 } }

/-- O20, R98 and R15: 600 ticks give a floor of 58, to which the frequency rises and at which coil 0 goes on; 590 ticks fail the
material check, at a floor of 59: coil 0 is withdrawn and UNSUITABLE names pan 2.7. -/
theorem witness_PairCompletionWritesTheRecords_floor :
    let on := after (.ringDecayed 1) (heatedPair 13 600)
    let off := after (.ringDecayed 1) (heatedPair 20 590)
    (∀ i, undrivable (coilState ((heatedPair 13 600).coils.get i)) = true → (heatedPair 13 600).drive.density.get i = 0) ∧
      ((heatedPair 13 600).coils.get 0).heating = true ∧ (on.drive.frequency, on.drive.density.get 0) = (58, 11) ∧
      (off.drive.frequency, off.drive.density.get 0) = (59, 0) ∧ keys on = keys driving ∧
      keys off = keys driving ++ [.notice (some tag27) .unsuitable] := by decide +kernel

/-- The component of 2.7 of module 3 and module 2's report of 2.3, which it faces and touches in rows 2 and 3. -/
def facing : Component × PeerEntry :=
  (untaggedComponent (Eight.fill (coveredCoil 40)) [2, 3],
    { source := 2
      report :=
        { tag := { creator := 2, serial := 3 }, area := 76, edge := ⟨0, 0, 0, 0, 0, 0, 40, 36⟩, published := none, home := true
          contact := false }
      age := 1 })

/-- A confirmed entry of 2.7 in its last unit of grace. -/
def lastGrace : LiftedEntry :=
  { tag := tag27, footprint := [4, 5], program := none, grace := 1, wasHome := true, cause := .lifted, confirmed := true }

/-- O20 on the steps that tag: a faced report (R29), a shared footprint (R30), the serial after 4095 with that one held (R22), a touched
report of a lower tag (R32), and a tracked part that leads a carried one of its tag (R34). -/
theorem witness_PairCompletionWritesTheRecords_steps :
    let c := facing.1
    let own : Tag := { creator := 3, serial := 9 }
    let lower : Tag := { creator := 2, serial := 3 }
    let last : Tag := { creator := 2, serial := 4095 }
    let t : Tagging := { comps := [], lifted := [lastGrace, { lastGrace with tag := last, footprint := [] }], serial := 4095, requests := [] }
    let parts := [{ c with tag := some lower, origin := .carried }, { c with coils := [5], tag := some lower, origin := .tracked }]
    (c.tag = none ∧ Faces 3 c.coils facing.2 ∧ (neighbourEdge 3 [facing.2] c).tag = some lower) ∧
      ((lastGrace.footprint.filter fun i => decide (i ∈ [(4 : CoilIx)])).length = 1 ∧
        (resumeOne t { c with coils := [4] }).requests = [(tag27, .returned)]) ∧
      (newTagOne 2 [] [] t c).requests = [({ creator := 2, serial := 1 }, .appeared)] ∧
      (Touches 3 (Eight.fill (coveredCoil 40)) (some own) c.coils facing.2 ∧
        (seniorityOf 3 (Eight.fill (coveredCoil 40)) [facing.2] { c with tag := some own }).tag = some lower) ∧
      (joinByTag (Eight.fill (coveredCoil 40)) [] [] parts).map (fun f => (f.tag, f.coils, f.origin)) =
        [(lower, [2, 3, 5], .tracked)] :=
  ⟨⟨rfl, ⟨by decide, 2, by decide +kernel⟩, by decide +kernel⟩, by decide +kernel, by decide +kernel,
    ⟨⟨by decide, by decide, 2, by decide +kernel⟩, by decide +kernel⟩, by decide +kernel⟩

/-- O20, step 12: a pan put back (RETURNED), two pans pushed together (MERGED), a fifth entry (GONE), and a pan that touches one with a
program (CONTACT), each after the reports. -/
theorem witness_PairCompletionWritesTheRecords_requests :
    let update := fun (pans : List Fragment) (lifted : List LiftedEntry) (peers : List PeerEntry) (coverages : Eight Nat) =>
      let s := tracking 2 8 coverages pans peers
      keys { s with tracker := { s.tracker with lifted := lifted } }.trackingUpdate
    let tag := fun n => ({ creator := 5, serial := n } : Tag)
    let other : Fragment := { pan27 with tag := tag 1, coils := [6] }
    update [] [lastGrace] [] ⟨0, 0, 0, 0, 40, 0, 0, 0⟩ = [.fragment tag27, .notice (some tag27) .returned] ∧
      update [pan27, other] [] [] ⟨0, 0, 0, 0, 40, 40, 40, 0⟩ =
        [.fragment tag27, .fragment (tag 1), .notice (some (tag 1)) .merged] ∧
      update [pan27] ([1, 2, 3, 4].map fun n => { lastGrace with tag := tag n }) [] (Eight.fill 0) =
        [.fragment tag27, .notice (some tag27) .lifted, .notice (some (tag 1)) .gone] ∧
      update [pan27] [] [{ peer3 with report := { peer2.report with tag := tag 1 } }] ⟨0, 0, 0, 0, 40, 0, 0, 0⟩ =
        [.fragment tag27, .notice (some tag27) .contact] := by decide +kernel

/-- O21 at K = 1 and K = 2, with Ke − Kf at its least, and the presence at the edges of its band for a judged and a HOT coil. -/
theorem witness_ProbeResultArithmetic :
    let one : Capture := { Capture.off with marks := 4 }
    let two : Capture := { Capture.off with marks := 5, cycleEnd := 1400 }
    let hot : Coil := { coveredCoil 30 with overheat := true }
    coilSetup.fullCount + 4 ≤ coilSetup.emptyCount ∧ one.ringCount < 2 ∧ 2 ≤ two.ringCount ∧ two.ringPeriod = some 700 ∧
      ({ coilSetup with fullCount := 24 } : CoilSetup).fullCount + 4 ≤ coilSetup.emptyCount ∧ judgesMaterial hot = false ∧
      judgesMaterial coil = true ∧ nextPresence true true .absent 23 = .absent ∧ nextPresence true true .absent 24 = .pan ∧
      nextPresence true true .pan 16 = .pan ∧ nextPresence false false .pan 15 = .absent := by decide +kernel

/-! The allocation point -/

/-- O22: a phase sum above the limit, at it, a demand of 0 and a limit of 0. -/
theorem witness_AllocationFigures :
    let atLimit := { sharing with setup := { setup with phaseLimit := 449 } }
    let noDemand := { sharing with cache := [] }
    let noLimit := { sharing with setup := { setup with phaseLimit := 0 } }
    (sharing.sup.held = false ∧ sharing.timebase.allocationRaised = true ∧ sharing.sup.state = .run ∧ sharing.setupGood = true ∧
        sharing.probe.sweep = none ∧ sharing.alloc.joined = true ∧
        sharing.setup.phaseLimit < (after .allocationPoint sharing).alloc.phaseSum) ∧
      (after .allocationPoint atLimit).alloc.phaseSum = 449 ∧ (after .allocationPoint atLimit).alloc.moduleGrant = 162 ∧
      (after .allocationPoint noDemand).alloc.moduleDemand = 0 ∧ (after .allocationPoint noLimit).alloc.moduleGrant = 0 := by
  decide +kernel

/-- O22 with pair 2 in flight: nothing of it is written, the update reports pan 2.7, and the figures are those of 4.9. -/
theorem witness_AllocationFigures_sweep :
    let s := { sharing with probe := { (ringing 5).probe with sweep := some 2 } }
    let t := after .allocationPoint s
    (s.sup.held = false ∧ s.timebase.allocationRaised = true ∧ s.sup.state = .run ∧ s.probe.sweep = some 2) ∧
      t.probe.sweep = none ∧ (t.coils.get 2).coverage = 0 ∧ keys t = [.fragment tag27, .status] ∧
      t.alloc.demandSum = 162 := by decide +kernel

theorem witness_GrantsStayWithinDemand :
    sharing.sup.held = false ∧ sharing.timebase.allocationRaised = true ∧ sharing.setupGood = true := by decide

/-- O24 on the fragment of 4.9, whose rounding leaves 3 of 162. -/
theorem witness_RawDemandsSumToTheShare :
    let f := { pan27 with share := 162 }
    f.coils ≠ [] ∧ f.coils.Pairwise (fun i j => i < j) ∧ 0 < f.area ∧
      f.area = (f.coils.map fun i => (sharing.coils.get i).coverage).sum ∧
      (f.coils.map (coverageShare sharing.coils f)).sum = 159 ∧ f.coils.map (rawDemandIn sharing.coils f) = [52, 37, 49, 24] ∧
      f ∈ driving.tracker.pans ∧ (∀ g ∈ driving.tracker.pans, (4 : CoilIx) ∈ g.coils → g = f) ∧ 4 ∈ f.coils ∧
      0 < currentTarget driving.cache f ∧ (∀ g ∈ driving.tracker.pans, (2 : CoilIx) ∈ g.coils → currentTarget driving.cache g = 0) ∧
      rawDemand driving.coils driving.cache driving.tracker.pans 2 = 0 := by
  decide +kernel

/-- O25 in STOPPED, and in RUN before an update has joined a program, where the module maximum is 0 too. -/
theorem witness_AllocationOutsideRunIsZero :
    let s := inState .stopped sharing
    let early := { sharing with alloc := Allocator.zero }
    (s.sup.held = false ∧ s.timebase.allocationRaised = true ∧ s.sup.state ≠ .run ∧ s.setupGood = true) ∧
      (early.sup.state = .run ∧ early.probe.sweep = none ∧ early.alloc.joined = false ∧
        (after .allocationPoint early).alloc.moduleMax = 0) := by decide +kernel

/-- O25 on the status of SETUP_FAULT with code 67, of QUIET and of STOPPED from outside: state, byte 12, D and level; none in LOADING. -/
theorem witness_AllocationOutsideRunIsZero_status :
    let bad := withSup (fun u => { u with held := false, state := .setupFault, faultCode := 67 })
      (withTime (fun b => { b with halfCycle := 1, allocationRaised := true }) State.reset)
    let out := withSup (fun u => { u with state := .stopped, stopCause := .external }) sharing
    let sent := fun (s : State) =>
      (after .allocationPoint s).link.queue.map fun e =>
        (((decodeStatus e.payload).map fun x => [x.stateCode, x.byte12, x.demand]).getD [], e.level)
    bad.setupGood = false ∧ sent bad = [([1, 67, 0], 1)] ∧ sent (inState .quiet sharing) = [([2, 0, 0], 1)] ∧
      sent out = [([4, 1, 0], 1)] ∧ sent (inState .loading sharing) = [] := by decide +kernel

/-- O25 on the link counts (R144, R157): in STOPPED with twelve frames waiting, none a status, the status displaces one of level 0, and
publishes the dropped count that stood before. -/
theorem witness_AllocationOutsideRunIsZero_full :
    let low := fullQueue.map fun e => { e with level := e.level - 1 }
    let t := after .allocationPoint (withLink (fun l => { l with queue := low, dropped := 7 }) (inState .stopped sharing))
    t.link.dropped = 8 ∧ t.link.queue.length = 12 ∧
      (t.link.queue.filter fun e => e.key = .status).map (fun e => (decodeStatus e.payload).map fun x => x.dropped) = [some 7] := by
  decide +kernel

/-- O26, without ALONE and under it at interval counts 0 and 7. -/
theorem witness_HandOverSetsDensities :
    let alone := fun n => withLink (fun l => { l with alone := true, interval := n }) sharing
    sharing.sup.held = false ∧ sharing.timebase.allocationRaised = true ∧ sharing.sup.state = .run ∧ sharing.setupGood = true ∧
      sharing.probe.sweep = none ∧ sharing.link.alone = false ∧ driving.link.queue.map (fun e => e.key) = [.status] ∧
      driving.drive.handedFrequency = 61 ∧ (after .allocationPoint (alone 0)).link.queue.length = 1 ∧
      (after .allocationPoint (alone 7)).link.queue = [] ∧ (after .allocationPoint (alone 7)).link.interval = 0 := by
  decide +kernel

/-- O27 by clause: a leader gone at age 9, not adjacent, recent at ages 4 and 8, met at 60, and missed at 59 by a FREE, a
PENDING 3, a PENDING 4 and a REFUSED module. -/
theorem witness_HandOverDecidesTheLock :
    let role := fun (s : State) => ((after .allocationPoint s).drive.role, (after .allocationPoint s).drive.pendingCounter)
    (following .free 0 54 0).sup.held = false ∧ (following .free 0 54 0).timebase.allocationRaised = true ∧
      (following .free 0 54 0).sup.state = .run ∧ (following .free 0 54 0).setupGood = true ∧
      (following .free 0 54 0).probe.sweep = none ∧ (following .free 0 54 3).leader.freshness = .fresh ∧
      (following .free 0 54 4).leader.freshness = .recent ∧ (following .free 0 54 8).leader.freshness = .recent ∧
      (following .free 0 54 9).leader.freshness = .gone ∧ sharing.leader.freshness = .recent ∧
      role (following .pending 2 54 9) = (.free, 0) ∧ role sharing = (.free, 0) ∧ role (following .free 0 60 4) = (.lost, 0) ∧
      role (following .free 0 60 0) = (.following, 0) ∧ role (following .free 0 59 0) = (.pending, 1) ∧
      role (following .pending 3 59 0) = (.pending, 4) ∧ role (following .pending 4 59 0) = (.refused, 4) ∧
      role (following .refused 4 59 0) = (.refused, 4) := by decide +kernel

/-- O27 on the floors and the frequency: a right neighbour that follows with chain floor 70, one that is free, no target, and a
module that is LOST with coils that steer. -/
theorem witness_HandOverDecidesTheLock_frequency :
    let right := fun role =>
      withLink (fun l => { l with roster := l.roster.set 3 { content := some { status .a 0 0 56 0 with role := role, chainFloor := 70 }, age := 3 } })
        sharing
    (after .allocationPoint (right .following)).drive.rightContribution = 70 ∧
      (after .allocationPoint (right .following)).drive.frequency = 70 ∧
      (after .allocationPoint (right .free)).drive.rightContribution = 41 ∧
      (after .allocationPoint { sharing with cache := [] }).drive.frequency = 56 ∧
      (after .allocationPoint (following .free 0 54 4)).drive.role = .lost ∧
      (∃ i, (after .allocationPoint (following .free 0 54 4)).alloc.assigned.get i = true ∧
        ((after .allocationPoint (following .free 0 54 4)).coils.get i).held = false) ∧
      (after .allocationPoint (following .pending 4 54 0)).drive.chainFloor = 60 := by decide +kernel

/-- O28 at densities 7, 8 and 15 of coil 1, and with a command that is no reset in a state with no allocation point raised. -/
theorem witness_SlotPatternIsEvenAndFixed :
    slotPattern 1 7 = [1, 3, 5, 7, 9, 11, 13] ∧ (slotPattern 1 8).length = 8 ∧ (15 : Nat) ≤ 15 ∧
      driving.timebase.allocationRaised = false ∧ driving.startDrive.drive.driven.get 1 = true := by decide +kernel

/-- O29: the five match values of f = 61 with a dead time of 64. -/
theorem witness_GatesFollowTheDriveCounter :
    driving.sup.held = false ∧ driving.timebase.halfCycle ≠ 0 ∧ (256000 + driving.drive.frequency) / (2 * driving.drive.frequency) = 2098 ∧
      driving.setup.deadTime = 64 ∧ driving.matchValues = [64, 985, 1113, 2034, 2098] ∧
      (after (.driveCounterMatch 2098) driving).drive.counter = 0 := by decide +kernel

/-! Second ticks and programs -/

/-- Module 2 STOPPED from outside. -/
def stopped (panel : PanelState) (own : Bool) : State :=
  withSup (fun u =>
    { u with state := .stopped, lastPanel := panel, stopCause := .external, overvoltageDrive := own, stopExternal := true }) run

/-- Pan 2.7 with the setting of Table 3-5, in step `k` with 1 s left and the given loop counter. -/
def stepping (k : Nat) (loop : Option Nat) : State :=
  { run with
    tracker := { pans := [{ pan27 with program := some { revision := 11, step := k, remaining := 1, loop := loop, done := false } }], lifted := [], serial := 8 }
    cache := [{ entry27 with revision := 11, steps := steps62 }] }

/-- A second tick raised in RUN, the setting of 2.7 at age `n`, its program in a 250-unit step of 60 seconds. -/
def ticking (n : Nat) : State :=
  { driving with
    timebase := { driving.timebase with secondTickRaised := true }
    cache := [{ entry27 with age := n, steps := [{ target := 250, duration := 60, loop := none }] }] }

/-- O30: at age 1 the setting stays, at age 2 it expires. -/
theorem witness_SecondTickAdvancesPrograms :
    (ticking 1).sup.held = false ∧ (ticking 1).timebase.secondTickRaised = true ∧ (ticking 1).sup.state = .run ∧
      (ticking 1).sup.absence < 9 ∧ ((ticking 1).cache.map fun e => e.tag).Nodup ∧
      (after .secondTick (ticking 1)).cache.map (fun e => e.age) = [2] ∧ (after .secondTick (ticking 2)).cache = [] ∧
      (after .secondTick (ticking 2)).drive.density = Eight.fill 0 := by decide +kernel

/-- O30 on the notices, at the last count, and in QUIET, STOPPED and LOADING. -/
theorem witness_SecondTickAdvancesPrograms_notices :
    let raise := withTime (fun b => { b with secondTickRaised := true })
    let at9 := withSup (fun u => { u with absence := 9 })
    let grace := { ticking 1 with tracker := { driving.tracker with pans := [], lifted := [lastGrace] } }
    let panel := fun (s : State) => ((after .secondTick (raise s)).sup.absence, (after .secondTick (raise s)).sup.lastPanel)
    keys (after .secondTick (raise (stepping 0 none))) = [.notice (some tag27) .step] ∧
      keys (after .secondTick (raise (stepping 3 none))) = [.notice (some tag27) .done] ∧
      keys (after .secondTick grace) = keys driving ++ [.notice (some tag27) .gone] ∧
      (after .secondTick (at9 (ticking 1))).sup.state = .quiet ∧ (panel (stopped .on false), panel (at9 (stopped .on false))) =
        ((1, .on), (10, .standby)) ∧ panel quiet = (1, .standby) ∧ panel (inState .loading quiet) = (0, .standby) := by
  decide +kernel

/-- O30 on one program (R55, R56) by case: done, a step that holds, a second less, a loop loaded, its last pass, falling through, the end. -/
theorem witness_SecondTickAdvancesPrograms_program :
    let p := fun (k remaining : Nat) (loop : Option Nat) =>
      ({ revision := 11, step := k, remaining := remaining, loop := loop, done := false } : Program)
    let tick := fun (q : Program) => let r := tickProgram steps62 q; (r.step, r.remaining, r.loop, r.done)
    tick { p 3 0 none with done := true } = (3, 0, none, true) ∧
      tickProgram [{ target := 9, duration := 0, loop := none }] (p 0 0 none) = p 0 0 none ∧
      tick (p 0 2 none) = (0, 1, none, false) ∧ tick (p 2 1 none) = (1, 20, some 1, false) ∧
      tick (p 2 1 (some 0)) = (3, 30, none, false) ∧ tick (p 0 1 (some 5)) = (1, 20, some 5, false) ∧
      tick (p 3 0 (some 5)) = (3, 0, none, true) := by decide +kernel

/-- O31 on the heated window, whose coils lose their target. -/
theorem witness_CacheExpiryRemovesTheProgram :
    (∃ e, (ticking 2).sup.held = false ∧ (ticking 2).sup.state = .run ∧ cacheEntry (ticking 2).cache tag27 = some e ∧
      e.age = 2) ∧
      (∃ t, exec (.cacheExpiry tag27) (ticking 2) = .next t ∧ (ticking 2).untargeted t 0 = true ∧ t.cache = []) :=
  ⟨⟨_, by decide +kernel, by decide +kernel, rfl, rfl⟩, ⟨_, rfl, by decide +kernel, by decide +kernel⟩⟩

/-- O32 by case of Table 3-6: falling through, loading the loop, its last pass, and the end. -/
theorem witness_StepEndGoesOn :
    let next := fun (s : State) => (after (.stepEnd tag27) s).tracker.pans.map fun f => f.program.map fun p => (p.step, p.loop)
    (stepping 0 none).sup.held = false ∧ (stepping 0 none).sup.state = .run ∧
      ((stepping 0 none).tracker.pans.map fun g => g.tag).Nodup ∧
      (∃ f ∈ (stepping 0 none).tracker.pans, f.tag = tag27 ∧ f.program.isSome = true) ∧
      (cacheEntry (stepping 0 none).cache tag27).isSome = true ∧ 0 < (stepAt steps62 0).duration ∧
      next (stepping 0 none) = [some (1, none)] ∧ next (stepping 2 none) = [some (1, some 1)] ∧
      next (stepping 2 (some 1)) = [some (1, some 0)] ∧ next (stepping 2 (some 0)) = [some (3, none)] ∧
      next (stepping 3 none) = [some (3, none)] ∧
      (keys (after (.stepEnd tag27) (stepping 0 none)), keys (after (.stepEnd tag27) (stepping 3 none))) =
        ([.notice (some tag27) .step], [.notice (some tag27) .done]) := by decide +kernel

theorem witness_GraceExpiryForgetsThePan :
    let s := { run with tracker := { run.tracker with lifted := [lastGrace] } }
    s.sup.held = false ∧ s.sup.state = .run ∧ (s.tracker.lifted.map fun x => x.tag).Nodup ∧ lastGrace ∈ s.tracker.lifted ∧
      lastGrace.grace = 1 ∧ (after (.graceExpiry tag27) s).link.queue.map (fun e => e.key) = [.notice (some tag27) .gone] := by
  decide +kernel

/-- O33 on the queue: replaced in place, held as a replacement, appended, displacing the oldest of the lowest level, dropped, and
discarded in SILENT. -/
theorem witness_GraceExpiryForgetsThePan_queue :
    let l := fun q => { Link.reset with queue := q }
    let keys := fun (m : Link) => m.queue.map fun e => e.key
    ((l queue84).hand .status 1 [9]).queue.map (fun e => e.payload) = [[1], [2], [9]] ∧
      ((l (markContending .status queue84)).hand .status 1 [9]).queue.map (fun e => e.replacement) = [none, none, some [9]] ∧
      keys ((l (fullQueue.take 11)).hand .status 1 [9]) = (fullQueue.take 11).map (fun e => e.key) ++ [.status] ∧
      keys ((l fullQueue).hand .status 2 [9]) = (fullQueue.drop 1).map (fun e => e.key) ++ [.status] ∧
      ((l fullQueue).hand .status 2 [9]).dropped = 1 ∧ keys ((l fullQueue).hand .status 1 [9]) = fullQueue.map (fun e => e.key) ∧
      ((inState .silent run).hand .status 1 [9]).link.queue = [] := by decide +kernel

/-- O33 on the bytes of a notice: tag 2.7 is coded 2007h (9.1). -/
theorem witness_GraceExpiryForgetsThePan_bytes :
    encodeNotice (some tag27) .gone 0 = [0x20, 0x07, 4, 0] ∧ encodeNotice none .unsuitable 5 = [0, 0, 9, 5] := by decide

/-- O34 by clause: QUIET and STOPPED, RUN with the line free, RUN with the line asserted. -/
theorem witness_PanelAbsenceLeavesRun :
    let absent := withSup (fun u => { u with absence := 9 })
    let asserted := withSup (fun u => { u with absence := 9, stopExternal := true }) driving
    ((absent quiet).sup.held = false ∧ (absent quiet).sup.absence = 9 ∧ (absent quiet).sup.state = .quiet) ∧
      (absent (inState .stopped quiet)).sup.state = .stopped ∧
      ((absent driving).sup.state = .run ∧ (absent driving).stopAsserted = false) ∧
      (asserted.sup.absence = 9 ∧ asserted.sup.state = .run ∧ asserted.stopAsserted = true) := by decide +kernel

theorem witness_ProgramIsDoneAtItsTotalDuration :
    let steps : List Machine.Step := [{ target := 250, duration := 2, loop := none }, { target := 40, duration := 1, loop := none }]
    steps ≠ [] ∧ (∀ x ∈ steps, 0 < x.duration ∧ x.loop = none) ∧
      ((tickProgram steps)^[2] (startProgram 1 steps)).done = false ∧
      ((tickProgram steps)^[3] (startProgram 1 steps)).done = true := by decide +kernel

/-! Measurement -/

/-- Module 2 in slot 9 of 5.7, coils 0, 1 and 4 driven. -/
def slot9 : State := (withTime (fun b => { b with halfCycle := 9 }) driving).startDrive

/-- O36 at the limit of 1,200 on both sides. -/
theorem witness_CurrentSampleAddsAPair :
    slot9.sup.held = false ∧ slot9.drive.driven.get 4 = true ∧ (slot9.sense.acc.get 4).inFlight = true ∧
      (1200#12).toInt = ((slot9.setup.coils.get 4).currentLimit : Int) ∧
      (BitVec.ofInt 12 (-1200)).toInt = -((slot9.setup.coils.get 4).currentLimit : Int) ∧
      ((after (.currentSample 4 0 (BitVec.ofInt 12 (-1200))) slot9).sense.acc.get 4).count = 1 := by decide +kernel

/-- O37 one beyond the limit on both sides, and at both ends of the converter. -/
theorem witness_OvercurrentCutsTheCoil :
    slot9.sup.held = false ∧ slot9.drive.driven.get 4 = true ∧ (slot9.sense.acc.get 4).inFlight = true ∧
      (2048#12).toInt = -2048 ∧ (2047#12).toInt = 2047 ∧ (1200 : Int) < (1201#12).toInt ∧
      (BitVec.ofInt 12 (-1201)).toInt < -(1200 : Int) ∧
      ((after (.currentSample 4 0 (BitVec.ofInt 12 (-1201))) slot9).coils.get 4).faultTimer = 4 := by decide +kernel

/-- O38 by clause: before setup, in slot 0, and in a drive slot at V_max and above it. -/
theorem witness_BusConversionIsHeldAndWatched :
    reading.sup.held = false ∧ reading.setupGood = false ∧
      (quiet.sup.held = false ∧ quiet.setupGood = true ∧ quiet.timebase.halfCycle = 0) ∧
      (slot9.sup.held = false ∧ slot9.setupGood = true ∧ slot9.timebase.halfCycle ≠ 0 ∧ (900#10).toNat ≤ slot9.setup.busMax ∧
        slot9.sense.busRun ≠ 63) ∧
      (after (.busConversion 900) slot9).sense.busRun = 0 ∧ (after (.busConversion 901) slot9).sense.busRun = 1 := by
  decide +kernel

/-- O39 in QUIET, in RUN and in STOPPED from outside. -/
theorem witness_OvervoltStopsTheModule :
    let run63 := withSense (fun n => { n with busRun := 63 })
    let idle := run63 (withTime (fun b => { b with halfCycle := 9 }) quiet)
    ((run63 slot9).sup.held = false ∧ (run63 slot9).setupGood = true ∧ (run63 slot9).timebase.halfCycle ≠ 0 ∧
        (run63 slot9).setup.busMax < (901#10).toNat ∧ (run63 slot9).sense.busRun = 63 ∧ (run63 slot9).sup.state = .run) ∧
      (idle.setupGood = true ∧ idle.timebase.halfCycle ≠ 0 ∧ idle.sup.state = .quiet) ∧
      (let out := run63 (withTime (fun b => { b with halfCycle := 9 }) (stopped .on false))
      out.sup.state = .stopped ∧ out.sup.stopCause = .external ∧ (after (.busConversion 901) out).sup.stopCause = .ownOvervolt ∧
        (after (.busConversion 901) out).sup.state = .stopped) := by decide +kernel

/-- Module 2 STOPPED by its own overvoltage, fifteen clear reports gone by. -/
def ownStop (panel : PanelState) (external : Bool) : State :=
  withSup (fun u =>
    { u with
      state := .stopped, lastPanel := panel, stopCause := .ownOvervolt, overvoltageDrive := true, clearRun := 15,
      stopExternal := external }) run

theorem witness_OvervoltageReleaseLeavesStopped :
    ((ownStop .on true).sup.held = false ∧ (ownStop .on true).sup.overvoltageDrive = true ∧ (ownStop .on true).sup.clearRun = 15 ∧
        (ownStop .on true).sup.state = .stopped ∧ (ownStop .on true).sup.stopExternal = true) ∧
      ((ownStop .on false).sup.stopExternal = false ∧ (ownStop .on false).sup.lastPanel = .on) ∧
      ((ownStop .standby false).sup.stopExternal = false ∧ (ownStop .standby false).sup.lastPanel = .standby) := by decide

/-! The stop line and the panels -/

theorem witness_StopLineAssertionEntersStopped :
    driving.sup.held = false ∧ driving.sup.state = .run ∧ quiet.sup.state = .quiet ∧
      (inState .loading quiet).sup.state = .loading ∧ (inState .setupFault quiet).sup.state = .setupFault ∧
      (inState .silent quiet).sup.state = .silent ∧ (ownStop .on false).sup.state = .stopped ∧
      (ownStop .on false).sup.overvoltageDrive = true := by decide +kernel

theorem witness_StopLineReleaseLeavesStopped :
    ((stopped .on false).sup.held = false ∧ (stopped .on false).sup.state = .stopped ∧
        (stopped .on false).sup.overvoltageDrive = false ∧ (stopped .on false).sup.lastPanel = .on) ∧
      ((stopped .standby false).sup.overvoltageDrive = false ∧ (stopped .standby false).sup.lastPanel = .standby) ∧
      (stopped .on true).sup.overvoltageDrive = true := by decide

/-- O43: ON in QUIET with the line free and asserted, STANDBY in RUN with the line free and asserted, ON in RUN. -/
theorem witness_PanelStateMovesTheModule :
    let asserted := withSup (fun u => { u with stopExternal := true })
    let state := fun (on : Bool) (s : State) => (after (.panelState 8 [if on then 1 else 2]) s).sup.state
    quiet.sup.held = false ∧ quiet.sup.state ≠ .silent ∧ quiet.link.awaitsIdle = false ∧ 8 ≤ (8 : LinkPos).val ∧
      state true quiet = .run ∧
      state true (asserted quiet) = .stopped ∧ state false driving = .quiet ∧ state false (asserted driving) = .stopped ∧
      state true driving = .run ∧ state true (inState .setupFault quiet) = .setupFault := by decide +kernel

/-! The line -/

/-- The queue of Table 8-4 waiting. -/
def waiting : State := withLink (fun l => { l with queue := queue84 }) run

/-- O41 and O43 on the queue (R150): the waiting status is replaced in place, a contending one gets a replacement, and QUIET keeps no
waiting frame of another kind. -/
theorem witness_StopLineAssertionEntersStopped_queue :
    let states := fun (q : List QueueEntry) => q.map fun e => (e.key.kindNumber, (decodeStatus e.payload).map fun x => x.stateCode)
    let contends := withLink (fun l => { l with queue := markContending .status queue84 }) run
    states (after .stopLineAssertion waiting).link.queue = [(5, none), (3, none), (4, some 4)] ∧
      states (after (.panelState 9 [2]) waiting).link.queue = [(4, some 2)] ∧
      (after .stopLineAssertion contends).link.queue.map
          (fun e => e.replacement.map fun p => (decodeStatus p).map fun x => x.stateCode) = [none, none, some (some 4)] := by
  decide +kernel

theorem witness_LineIdleStartsTheMostUrgent :
    (waiting.sup.held = false ∧ waiting.sup.state ≠ .silent ∧ waiting.link.sending = none ∧
        (∀ e ∈ waiting.link.queue, e.contending = false) ∧ (waiting.link.queue.map fun e => e.key).Nodup ∧
        waiting.link.queue ≠ []) ∧
      (run.link.queue = [] ∧ run.link.sending = none) := by decide +kernel

/-- The FRAGMENT of Table 8-4 contending, with the given replacement. -/
def contender (replacement : Option (List Byte)) : QueueEntry :=
  { key := .fragment tag27, level := 2, payload := [2], contending := true, replacement := replacement }

/-- O45 with and without a replacement. -/
theorem witness_ContentionEndsForTheEntry :
    let s := fun r => withLink (fun l => { l with queue := queue84.take 1 ++ contender r :: queue84.drop 2 }) run
    (s none).sup.held = false ∧ (s (some [9])).link.queue = queue84.take 1 ++ contender (some [9]) :: queue84.drop 2 ∧
      (contender none).contending = true ∧ (∀ x ∈ queue84.take 1 ++ queue84.drop 2, x.contending = false) ∧
      (after .contentionLost (s (some [9]))).link.queue.map (fun e => e.payload) = [[1], [9], [3]] ∧
      (after .contentionWon (s none)).link.queue.map (fun e => e.payload) = [[1], [3]] := by decide +kernel

/-- A module with its status on the line. -/
def sending : State :=
  withLink (fun l => { l with sending := some { key := .status, level := 1, payload := [3], bits := [] } }) driving

/-- O46: a clash and a collision in RUN, and both in LOADING. -/
theorem witness_PositionClashSilencesTheModule :
    sending.sup.held = false ∧ sending.sup.state ≠ .silent ∧ sending.link.sending ≠ none ∧ sending.link.awaitsIdle = false ∧
      sending.sup.state ≠ .loading ∧
      (inState .loading sending).sup.state = .loading ∧ (after .collision sending).sup.state = .silent ∧
      (after .collision (inState .loading sending)).sup.state = .loading := by decide +kernel

/-- O47 at an unheard streak of 4, and with none on the line. -/
theorem witness_OwnFrameEndReadsBothSlots :
    let s := withLink (fun l => { l with unheard := 4 }) sending
    s.sup.held = false ∧ s.link.sending ≠ none ∧ s.link.unheard = 4 ∧ (after (.ownFrameEnd false true) s).link.alone = true ∧
      (after (.ownFrameEnd false true) s).link.rejects = 1 ∧ (after (.ownFrameEnd true false) s).link.unheard = 0 := by
  decide +kernel

/-- A status frame from module 3 on the line, with its last bit turned: a wrong check. -/
def wrongBits : List Bool :=
  let bits := wireBits 1 4 3 [1]
  bits.set 40 (!(bits.getD 40 false))

/-- O48: six equal bits are a violation, after which a frame is not heard until the line has been idle; a turned check bit is a wrong
check; a whole frame of kind 1 is a PANEL_STATE. -/
theorem witness_RejectedFrameDrivesItsSlot :
    let waits := after (.frameReject (List.replicate 40 false)) quiet
    quiet.sup.held = false ∧ quiet.sup.state ≠ .silent ∧ quiet.link.awaitsIdle = false ∧
      receiveBits (List.replicate 40 false) = .violation ∧ receiveBits wrongBits = .wrongCheck ∧
      (after (.frameReject wrongBits) quiet).link.rejectDriven = true ∧
      (after (.frameReject wrongBits) (inState .silent quiet)).link.rejectDriven = false ∧
      receiveBits (wireBits 3 1 9 [1]) = .whole 1 9 [1] ∧
      (after (.frameReject (wireBits 3 1 9 [1])) quiet).sup.state = .run ∧ waits.link.awaitsIdle = true ∧
      (after (.panelState 9 [1]) waits).sup.state = .quiet ∧ (after (.panelState 9 [1]) waits).link.ackDriven = false ∧
      (after (.panelState 9 [1]) (after .lineIdle waits)).sup.state = .run := by decide +kernel

/-- O49: the setting of 9.4.1 outside RUN, new, over a cached one of the same and of another revision, and in a full cache of settings
that the module does not hold and that it holds; and the same setting of tag 0. -/
theorem witness_SettingIsRefreshedOrAppended :
    let setting : Setting :=
      { tag := some { creator := 6, serial := 2 }, revision := 11, mode := .eachStep, steps := steps62 }
    let old : CacheEntry := { tag := { creator := 6, serial := 2 }, revision := 10, mode := .eachStep, steps := steps62, age := 1 }
    let other := fun (n : Fin 8) => ({ entry27 with tag := { creator := n, serial := 1 } } : CacheEntry)
    let held := fun (n : Fin 8) => ({ lastGrace with tag := { creator := n, serial := 1 } } : LiftedEntry)
    let full := { run with cache := allCoils.map other }
    let holding := { full with tracker := { full.tracker with lifted := allCoils.map held } }
    run.sup.held = false ∧ run.sup.state = .run ∧ quiet.sup.state ≠ .run ∧ quiet.sup.state ≠ .silent ∧
      run.link.awaitsIdle = false ∧ 8 ≤ (9 : LinkPos).val ∧
      decodeSetting setting62 = some setting ∧ cacheEntry run.cache { creator := 6, serial := 2 } = none ∧
      run.cache.length < 8 ∧ cacheEntry [entry27, old] { creator := 6, serial := 2 } = some old ∧
      (after (.panSetting 9 setting62) { run with cache := [old, entry27] }).cache.map (fun e => e.revision) = [4, 11] ∧
      full.cache.length = 8 ∧
      (after (.panSetting 9 setting62) full).cache.map (fun e => e.tag) =
        (full.cache.drop 1).map (fun e => e.tag) ++ [{ creator := 6, serial := 2 }] ∧
      (after (.panSetting 9 setting62) holding).cache = holding.cache ∧
      (after (.panSetting 9 setting62) holding).link.dropped = 1 ∧
      (decodeSetting ((setting62.set 0 0).set 1 0)).map (fun x => x.tag) = some none ∧
      (after (.panSetting 9 ((setting62.set 0 0).set 1 0)) run).link.malformed = 1 := by
  decide +kernel

/-- The PAN_SETTING of 9.4.1 under tag 2.7, with `n` steps, as the panel of `stepping` refreshes it. -/
def setting27 (revision : Byte) (n : Nat) (flags : Byte) : List Byte :=
  [0x20, 0x07, revision, BitVec.ofNat 8 n + flags] ++ (setting62.drop 4).take (4 * n)

/-- Step and done flag of the programs that a setting leaves, and the payloads that then wait. -/
def taken (s : State) (payload : List Byte) : List (Option (Nat × Bool)) × List (List Byte) :=
  let t := after (.panSetting 9 payload) s
  (t.tracker.pans.map (fun f => f.program.map fun q => (q.step, q.done)), t.link.queue.map fun e => e.payload)

/-- O49 on a cached tag (R49, R50, R58): the home of a program restarted at a new revision sends STEP 0 in EACH_STEP alone; one whose
step the refresh takes away at an equal revision is done and sends DONE with the new last step; one whose step is left keeps it; a
module that is not home sends none. -/
theorem witness_SettingIsRefreshedOrAppended_notices :
    let s := stepping 3 none
    let away := { s with tracker := { s.tracker with pans := s.tracker.pans.map fun f => { f with home := false } } }
    ((decodeSetting (setting27 12 4 0)).isSome = true ∧ (cacheEntry s.cache tag27).isSome = true) ∧
      [setting27 12 4 0, setting27 12 4 128, setting27 11 2 128, setting27 11 4 0].map (taken s) =
        [([some (0, false)], [[0x20, 0x07, 7, 0]]), ([some (0, false)], []), ([some (1, true)], [[0x20, 0x07, 8, 1]]),
          ([some (3, false)], [])] ∧
      taken away (setting27 12 4 0) = ([some (0, false)], []) := by decide +kernel

/-- O50: a closed report and one with area from module 3, in RUN and outside it; a closed report of no entry confirms nothing; in a full
table the oldest report leaves; a home report moves the program of a fragment that is not home. -/
theorem witness_FragmentIsStoredOrCloses :
    let unheard := withLink (fun l => { l with peers := [] }) slid
    let other := fun (n : Nat) => ({ peer3 with report := { peer3.report with tag := { creator := 3, serial := Fin.ofNat 4096 n } } } : PeerEntry)
    let full := withLink (fun l => { l with peers := peer3 :: (List.range 15).map fun n => other (n + 1) }) slid
    let away := { driving with tracker := { driving.tracker with pans := [{ pan27 with home := false, share := 162 }] } }
    let published := { peer2.report with published := some { program := { program27 with step := 3 }, target := 250 } }
    slid.sup.held = false ∧ slid.sup.state ≠ .silent ∧ slid.link.awaitsIdle = false ∧ (3 : Position).val = (3 : LinkPos).val ∧
      (3 : Position) ≠ slid.sup.position ∧
      decodeFragment (encodeClosed tag27) = some (.closed tag27) ∧
      decodeFragment (encodeReport peer3.report) = some (.report peer3.report) ∧ slid.sup.state = .run ∧
      (inState .stopped slid).sup.state ≠ .run ∧ slid.tracker.lifted ≠ [] ∧
      (after (.fragment 3 (encodeClosed tag27)) unheard).tracker = unheard.tracker ∧
      (after (.fragment 3 (encodeClosed tag27)) (inState .stopped slid)).tracker = slid.tracker ∧
      full.link.peers.length = 16 ∧
      (after (.fragment 3 (encodeReport (other 20).report)) full).tracker.lifted.map (fun e => e.confirmed) = [true] ∧
      ((after (.fragment 3 (encodeReport published)) away).tracker.pans.map fun f => f.program.map fun p => (p.step, p.done)) =
        [some (0, true)] ∧
      keys (after (.fragment 3 (encodeClosed tag27)) slid) = keys slid ++ [.notice (some tag27) .lifted] ∧
      keys (after (.fragment 3 (encodeReport (other 20).report)) full) = keys slid ++ [.notice (some tag27) .lifted] ∧
      keys (after (.fragment 3 (encodeReport peer3.report)) { slid with tracker := { slid.tracker with lifted := [lastGrace] } }) =
        keys slid ++ [.notice (some tag27) .returned] := by decide +kernel

theorem witness_StatusIsStoredInTheRoster :
    run.sup.held = false ∧ run.sup.state ≠ .silent ∧ run.link.awaitsIdle = false ∧ (3 : Position).val = (3 : LinkPos).val ∧
      (3 : Position) ≠ run.sup.position ∧
      (decodeStatus [0x7C, 0, 162, 0, 133, 2, 0x58, 61, 0, 44, 0x31, 0, 0, 1, 2, 3, 4, 5, 0, 2]).isSome = true := by
  decide +kernel

/-- O52 at kinds 0, 6 and 15. -/
theorem witness_NoticesAndIgnoredKindsAreAcknowledged :
    run.sup.held = false ∧ run.sup.state ≠ .silent ∧ run.link.awaitsIdle = false ∧ (3 : LinkPos).val ≠ run.sup.position.val ∧
      ((0#4).toNat = 0 ∧ 6 ≤ (6#4).toNat ∧ 6 ≤ (15#4).toNat) := by decide

/-- O53: malformed frames of each kind, from sources 7 and 8, the edges of the two ranges. -/
theorem witness_MalformedFramesAreOnlyCounted :
    run.sup.held = false ∧ run.sup.state ≠ .silent ∧ run.link.awaitsIdle = false ∧ (7 : LinkPos).val ≠ run.sup.position.val ∧
      (8 : LinkPos).val ≠ run.sup.position.val ∧ decodePanelState [3] = none ∧ decodeSetting [] = none ∧
      decodeFragment [] = none ∧ decodeStatus [] = none ∧ (after (.panelState 8 [3]) run).link.malformed = 1 ∧
      (after (.panelState 7 [3]) run).link.malformed = 0 ∧ (after (.fragment 7 []) run).link.malformed = 1 ∧
      (after (.fragment 8 []) run).link.malformed = 0 := by decide +kernel

/-- O53 at the bounds of the decoding rules: areas 15, 16, 512 and 513; a step count of 7; tag fields of serial 0; spare bit 15. -/
theorem witness_MalformedFramesAreOnlyCounted_bounds :
    let frame := fun (tag area : List Byte) (edge : List Byte) => tag ++ area ++ edge ++ List.replicate 8 (0 : Byte)
    let none15 := frame [0x20, 7] [0, 15] [15, 0, 0, 0, 0, 0, 0, 0]
    let some16 := frame [0xA0, 7] [0, 16] [16, 0, 0, 0, 0, 0, 0, 0]
    let some512 := frame [0x20, 7] [2, 0] (List.replicate 8 64)
    let none513 := frame [0x20, 7] [2, 1] (List.replicate 7 64 ++ [65])
    decodeFragment none15 = none ∧ (decodeFragment some16).isSome = true ∧ (decodeFragment some512).isSome = true ∧
      decodeFragment none513 = none ∧ decodeFragment (frame [0x20, 0] [0, 0] (List.replicate 8 0)) = none ∧
      decodeSetting (setting62.set 3 7) = none ∧ decodeSetting ((setting62.set 0 0x60).set 1 0) = none := by decide +kernel

/-! Headline statements -/

/-- O54 on a frame whose payload needs filler bits. -/
theorem witness_SentFrameIsHeardWhole :
    (2 : Nat) ≤ 3 ∧ ([0, 0, 255, 255, 1] : List Byte).length ≤ 63 ∧
      receiveBits (wireBits 2 (3#4).toNat (2 : LinkPos).val [0, 0, 255, 255, 1]) = .whole 3 2 [0, 0, 255, 255, 1] := by
  decide +kernel

/-- O55: a report and a status within their ranges. -/
theorem witness_ReportsDecodeAsSent :
    (1 ≤ peer3.report.tag.serial.val ∧ 16 ≤ peer3.report.area ∧ peer3.report.area ≤ 512 ∧
        peer3.report.edge.sum = peer3.report.area ∧
        (∀ i, peer3.report.edge.get i = 0 ∨ 16 ≤ peer3.report.edge.get i ∧ peer3.report.edge.get i ≤ 64)) ∧
      (let st := driving.status
      1 ≤ st.stateCode ∧ st.stateCode ≤ 4 ∧ 1 ≤ st.causeCode ∧ st.causeCode ≤ 3 ∧ st.maximum ≤ 2400 ∧ st.demand ≤ st.maximum ∧
        st.grant ≤ st.demand ∧ st.grant ≤ 740 ∧ inBand st.frequency ∧ inBand st.chainFloor ∧
        (st.faultTop = 0 ↔ st.faultCount = 0) ∧ st.shortfall ≤ 4095) := by decide +kernel

theorem driving_cache : driving.cache = [entry27] := by decide +kernel

theorem driving_pans : driving.tracker.pans = [{ pan27 with share := 162 }] := by decide +kernel

/-- O56 on the heated window of 5.7, and a command that acts there. -/
theorem witness_EveryCommandKeepsDriveSafe :
    driving.Safe ∧ 0 < driving.drive.density.get 0 ∧ exec .stopLineAssertion driving = .next driving.stopLineAssertion := by
  have start : driving.StartSound := by constructor <;> decide +kernel
  have sweep : driving.SweepSound := by constructor <;> decide +kernel
  have drive : driving.DriveSound := by constructor <;> decide +kernel
  exact ⟨⟨start, sweep, drive⟩, by decide +kernel, rfl⟩

/-- O57 on the same window. -/
theorem witness_EveryCommandKeepsTablesSound : driving.TablesSound := by constructor <;> decide +kernel

/-- O58 on the same window, with a program in the pan table. -/
theorem witness_EveryCommandKeepsProgramsSound : driving.ProgramsSound where
  steps_count := by decide +kernel
  steps_clamped := by
    rw [driving_cache]
    intro e he k hk
    simp only [List.mem_singleton] at he
    subst he
    have hk : k = 0 := by simpa [entry27] using hk
    subst hk
    exact ⟨by decide, by decide, by simp [entry27, stepAt]⟩
  pans := by
    rw [driving_pans, driving_cache]
    intro f hf p hp
    simp only [List.mem_singleton] at hf
    subst hf
    have hp : p = program27 := by simpa [pan27] using hp.symm
    subst hp
    exact ⟨entry27, by decide, ⟨rfl, by decide, by decide, by simp [program27], by simp [program27]⟩⟩
  lifted := by
    have h : driving.tracker.lifted = [] := by decide +kernel
    rw [h]
    simp
  peers := by
    have h : driving.link.peers = [peer3] := by decide +kernel
    rw [h]
    simp [peer3]

/-- O59 before setup is good. -/
theorem witness_EveryCommandKeepsFrequencySound_idle :
    State.reset.setupGood = false ∧ State.reset.drive.frequency = 41 ∧ State.reset.drive.lockFloor = 41 := by decide

/-- O59 on the same window. -/
theorem witness_EveryCommandKeepsFrequencySound : driving.FrequencySound := by
  constructor
  case heard =>
    have h : ∀ q, ∀ st ∈ (driving.link.roster.get q).content, inBand st.frequency ∧ inBand st.chainFloor := by decide +kernel
    exact fun q st hq => h q st hq
  all_goals decide +kernel

end Sys2Proof.Tests
end

/-! PROOFS. The raw demands of R70 (spec/04): the fullest coil of a fragment, the bounds of its coverage parts, the exact sum. -/

namespace Sys2Proof.Machine

open Sys2Proof

/-! ### The fullest coil -/

theorem fullestCoil_mem (coils : Eight Coil) (c : CoilIx) (cs : List CoilIx) : fullestCoil coils c cs ∈ c :: cs := by
  induction cs generalizing c with
  | nil => simp [fullestCoil]
  | cons j js ih =>
    by_cases hlt : (coils.get c).coverage < (coils.get j).coverage
    · simpa only [fullestCoil, hlt, if_true] using List.mem_cons_of_mem c (ih j)
    · simpa only [fullestCoil, hlt, if_false] using List.cons_subset_cons c (List.subset_cons_self j js) (ih c)

/-- No coil covers more than the fullest one. -/
theorem coverage_le_fullestCoil (coils : Eight Coil) (c : CoilIx) (cs : List CoilIx) :
    ∀ i ∈ c :: cs, (coils.get i).coverage ≤ (coils.get (fullestCoil coils c cs)).coverage := by
  induction cs generalizing c with
  | nil => simp [fullestCoil]
  | cons j js ih =>
    by_cases hlt : (coils.get c).coverage < (coils.get j).coverage
    · have h := ih j
      simp only [List.forall_mem_cons] at h
      simp only [fullestCoil, hlt, if_true, List.forall_mem_cons]
      exact ⟨hlt.le.trans h.1, h⟩
    · have h := ih c
      simp only [List.forall_mem_cons] at h
      simp only [fullestCoil, hlt, if_false, List.forall_mem_cons]
      exact ⟨h.1, (not_lt.mp hlt).trans h.1, h.2⟩

/-- In a list in rising order the fullest coil is the lowest of those that cover as much: a later coil replaces the one
held so far only when it covers more. -/
theorem fullestCoil_le_of_coverage_eq (coils : Eight Coil) (c : CoilIx) (cs : List CoilIx)
    (hrise : (c :: cs).Pairwise fun i j => i < j) :
    ∀ i ∈ c :: cs, (coils.get i).coverage = (coils.get (fullestCoil coils c cs)).coverage → fullestCoil coils c cs ≤ i := by
  induction cs generalizing c with
  | nil => simp [fullestCoil]
  | cons j js ih =>
    obtain ⟨hc, hj⟩ := List.pairwise_cons.mp hrise
    obtain ⟨hcj, hcjs⟩ := List.forall_mem_cons.mp hc
    by_cases hlt : (coils.get c).coverage < (coils.get j).coverage
    · have hfull := coverage_le_fullestCoil coils j js j List.mem_cons_self
      simp only [fullestCoil, hlt, if_true]
      refine List.forall_mem_cons.mpr ⟨fun heq => ?_, ih j hj⟩
      omega
    · have hfull := coverage_le_fullestCoil coils c js c List.mem_cons_self
      obtain ⟨ihc, ihjs⟩ :=
        List.forall_mem_cons.mp (ih c (List.pairwise_cons.mpr ⟨hcjs, (List.pairwise_cons.mp hj).2⟩))
      simp only [fullestCoil, hlt, if_false]
      refine List.forall_mem_cons.mpr ⟨ihc, List.forall_mem_cons.mpr ⟨fun heq => ?_, ihjs⟩⟩
      exact (ihc (by omega)).trans hcj.le

/-! ### The coverage parts -/

section CoverageParts

variable {coils : Eight Coil} {f : Fragment}

/-- R70: what the coverage parts of the coils of a fragment leave of its share. -/
def remainderIn (coils : Eight Coil) (f : Fragment) : Nat := f.share - (f.coils.map (coverageShare coils f)).sum

theorem rawDemandIn_eq {c : CoilIx} {cs : List CoilIx} (hcoils : f.coils = c :: cs) (i : CoilIx) :
    rawDemandIn coils f i =
      coverageShare coils f i + if i = fullestCoil coils c cs then remainderIn coils f else 0 := by
  simp [rawDemandIn, remainderIn, hcoils]

/-- The exact parts of the share, each times the area, sum to the share times the area. -/
theorem sum_share_mul_coverage (harea : f.area = areaOf coils f.coils) :
    (f.coils.map fun i => f.share * (coils.get i).coverage).sum = f.area * f.share := by
  rw [List.sum_map_mul_left, harea, areaOf, Nat.mul_comm]

/-- Rounding down never hands out more than the share. -/
theorem sum_coverageShare_le (hpos : 0 < f.area) (harea : f.area = areaOf coils f.coils) :
    (f.coils.map (coverageShare coils f)).sum ≤ f.share := by
  refine Nat.le_of_mul_le_mul_left ?_ hpos
  calc f.area * (f.coils.map (coverageShare coils f)).sum
      = (f.coils.map fun i => f.area * coverageShare coils f i).sum := (List.sum_map_mul_left ..).symm
    _ ≤ (f.coils.map fun i => f.share * (coils.get i).coverage).sum :=
        List.sum_le_sum fun i _ => Nat.mul_div_le _ _
    _ = f.area * f.share := sum_share_mul_coverage harea

/-- Rounding down loses less than 1 at each coil. -/
theorem share_lt_sum_coverageShare_add_length (hne : f.coils ≠ []) (hpos : 0 < f.area)
    (harea : f.area = areaOf coils f.coils) :
    f.share < (f.coils.map (coverageShare coils f)).sum + f.coils.length := by
  refine Nat.lt_of_mul_lt_mul_left (a := f.area) ?_
  calc f.area * f.share
      = (f.coils.map fun i => f.share * (coils.get i).coverage).sum := (sum_share_mul_coverage harea).symm
    _ < (f.coils.map fun i => f.area * (coverageShare coils f i + 1)).sum :=
        List.sum_lt_sum_of_ne_nil hne _ _ fun i _ => Nat.lt_mul_div_succ _ hpos
    _ = f.area * ((f.coils.map (coverageShare coils f)).sum + f.coils.length) := by
        simp [List.sum_map_mul_left, List.sum_map_add]

theorem sum_coverageShare_add_remainderIn (hpos : 0 < f.area) (harea : f.area = areaOf coils f.coils) :
    (f.coils.map (coverageShare coils f)).sum + remainderIn coils f = f.share :=
  Nat.add_sub_cancel' (sum_coverageShare_le hpos harea)

theorem remainderIn_lt_length (hne : f.coils ≠ []) (hpos : 0 < f.area) (harea : f.area = areaOf coils f.coils) :
    remainderIn coils f < f.coils.length := by
  have hsum := sum_coverageShare_add_remainderIn hpos harea
  have hlt := share_lt_sum_coverageShare_add_length hne hpos harea
  omega

/-- The one coil that takes the remainder takes it once, so the raw demands sum to the share. -/
theorem sum_rawDemandIn (hne : f.coils ≠ []) (hrise : f.coils.Pairwise fun i j => i < j) (hpos : 0 < f.area)
    (harea : f.area = areaOf coils f.coils) : (f.coils.map (rawDemandIn coils f)).sum = f.share := by
  obtain ⟨c, cs, hcoils⟩ := List.exists_cons_of_ne_nil hne
  have hmem : fullestCoil coils c cs ∈ f.coils := hcoils ▸ fullestCoil_mem coils c cs
  have hcount : f.coils.count (fullestCoil coils c cs) = 1 :=
    List.count_eq_one_of_mem (hrise.imp fun hlt => hlt.ne) hmem
  have hrest : (f.coils.map fun i => if i = fullestCoil coils c cs then remainderIn coils f else 0).sum =
      remainderIn coils f := by
    rw [List.sum_map_eq_nsmul_single (fullestCoil coils c cs) _ fun i hi _ => if_neg hi, hcount]
    simp
  rw [funext (rawDemandIn_eq (coils := coils) hcoils), List.sum_map_add, hrest,
    sum_coverageShare_add_remainderIn hpos harea]

end CoverageParts

/-! ### The raw demand of a coil -/

section RawDemand

variable {coils : Eight Coil} {cache : List CacheEntry} {pans : List Fragment} {i : CoilIx}

theorem rawDemand_eq_zero (hidle : ∀ f ∈ pans, i ∈ f.coils → currentTarget cache f = 0) :
    rawDemand coils cache pans i = 0 := by
  unfold rawDemand
  cases hfind : pans.find? fun f => f.coils.contains i with
  | none => rfl
  | some f =>
    have hi : i ∈ f.coils := by simpa using List.find?_some hfind
    simp [hidle f (List.mem_of_find?_eq_some hfind) hi]

theorem rawDemand_eq_rawDemandIn {f : Fragment} (hf : f ∈ pans) (honly : ∀ g ∈ pans, i ∈ g.coils → g = f)
    (hi : i ∈ f.coils) (htarget : 0 < currentTarget cache f) :
    rawDemand coils cache pans i = rawDemandIn coils f i := by
  unfold rawDemand
  cases hfind : pans.find? fun f => f.coils.contains i with
  | none => exact absurd hi (by simpa using List.find?_eq_none.mp hfind f hf)
  | some g =>
    have hg : g = f := honly g (List.mem_of_find?_eq_some hfind) (by simpa using List.find?_some hfind)
    simp [hg, htarget]

end RawDemand

/-- Settles O24: the share lies between the sum of the rounded coverage parts and that sum plus the number of coils, and the
fullest coil takes the difference. -/
theorem rawDemandsSumToTheShare : Obligations.RawDemandsSumToTheShare := by
  constructor
  · intro coils f hne hrise hpos harea
    obtain ⟨c, cs, hcoils⟩ := List.exists_cons_of_ne_nil hne
    refine ⟨sum_rawDemandIn hne hrise hpos harea, fullestCoil coils c cs, hcoils ▸ fullestCoil_mem coils c cs,
      remainderIn coils f, remainderIn_lt_length hne hpos harea, sum_coverageShare_add_remainderIn hpos harea,
      ?largest, ?lowest, fun i _ => rawDemandIn_eq hcoils i⟩
    case largest => exact hcoils ▸ coverage_le_fullestCoil coils c cs
    case lowest => exact hcoils ▸ fullestCoil_le_of_coverage_eq coils c cs (hcoils ▸ hrise)
  · exact fun coils cache pans i =>
      ⟨rawDemand_eq_zero, fun f hf honly hi htarget => rawDemand_eq_rawDemandIn hf honly hi htarget⟩

end Sys2Proof.Machine

/-! PROOFS. The slot patterns of R95 (spec/05): a pattern counts where the multiples of its density pass a multiple of 15. -/

namespace Sys2Proof.Machine

open Sys2Proof

/-! ### The slots by phase

R95 judges slot `t0` of coil `i` by t − 1 = (t0 − 1 + 2 i) mod 15, here the slot's phase. -/

/-- R95: t − 1 of a slot of a coil. -/
def slotPhase (i : CoilIx) (slot : Nat) : Nat := (slot - 1 + 2 * i.val) % 15

/-- R95: a density is on at the phases at which its multiples, counted in fifteenths, pass a whole number. -/
def phaseOn (n p : Nat) : Bool := (p + 1) * n / 15 - p * n / 15 = 1

theorem phaseOn_iff {n p : Nat} : phaseOn n p = true ↔ (p + 1) * n / 15 - p * n / 15 = 1 := by
  simp only [phaseOn, decide_eq_true_eq]

theorem slotOn_eq_phaseOn (i : CoilIx) (n slot : Nat) : slotOn i n slot = phaseOn n (slotPhase i slot) := rfl

theorem mem_driveSlots {slot : Nat} : slot ∈ driveSlots ↔ 1 ≤ slot ∧ slot ≤ 15 := by
  simp only [driveSlots, List.mem_cons, List.not_mem_nil, or_false]
  omega

theorem mem_slotPattern {i : CoilIx} {n slot : Nat} :
    slot ∈ slotPattern i n ↔ (1 ≤ slot ∧ slot ≤ 15) ∧ phaseOn n (slotPhase i slot) = true := by
  rw [slotPattern, List.mem_filter, mem_driveSlots, slotOn_eq_phaseOn]

theorem slotPhase_lt (i : CoilIx) (slot : Nat) : slotPhase i slot < 15 := Nat.mod_lt _ (by decide)

/-- R95: the slots take their phases one to one. -/
theorem slotPhase_injOn {i : CoilIx} {a b : Nat} (ha : 1 ≤ a ∧ a ≤ 15) (hb : 1 ≤ b ∧ b ≤ 15)
    (h : slotPhase i a = slotPhase i b) : a = b := by
  simp only [slotPhase] at h
  omega

/-- The next slot has the next phase, round the circle of 15. -/
theorem slotPhase_succ (i : CoilIx) {slot : Nat} (h : 1 ≤ slot) :
    slotPhase i (slot + 1) = (slotPhase i slot + 1) % 15 := by
  simp only [slotPhase]
  omega

/-- The phases of the drive slots are a reordering of 0 to 14. -/
theorem map_slotPhase_perm (i : CoilIx) : (driveSlots.map (slotPhase i)).Perm (List.range 15) := by
  have hnodup : (driveSlots.map (slotPhase i)).Nodup :=
    List.Nodup.map_on (fun a ha b hb => slotPhase_injOn (mem_driveSlots.mp ha) (mem_driveSlots.mp hb)) (by decide)
  have hsub : driveSlots.map (slotPhase i) ⊆ List.range 15 := fun p hp => by
    obtain ⟨slot, -, rfl⟩ := List.mem_map.mp hp
    exact List.mem_range.mpr (slotPhase_lt i slot)
  exact (List.subperm_of_subset hnodup hsub).perm_of_length_le (by simp [driveSlots])

/-! ### How many slots are on -/

/-- The terms of R95 telescope: among the first `m` phases as many are on as whole numbers are passed. -/
theorem countP_phaseOn {n : Nat} (hn : n ≤ 15) (m : Nat) : (List.range m).countP (phaseOn n) = m * n / 15 := by
  induction m with
  | zero => simp
  | succ m ih =>
    have hstep : (m + 1) * n = m * n + n := Nat.succ_mul m n
    rw [List.range_succ, List.countP_append, ih, List.countP_singleton]
    simp only [phaseOn_iff]
    split <;> omega

theorem length_slotPattern (i : CoilIx) {n : Nat} (hn : n ≤ 15) : (slotPattern i n).length = n :=
  calc (slotPattern i n).length
      = driveSlots.countP (phaseOn n ∘ slotPhase i) := by
        rw [slotPattern, ← List.countP_eq_length_filter]
        exact List.countP_congr fun slot _ => by simp [slotOn_eq_phaseOn]
    _ = (List.range 15).countP (phaseOn n) := by rw [← List.countP_map, (map_slotPhase_perm i).countP_eq]
    _ = n := by rw [countP_phaseOn hn]; omega

theorem slotPattern_zero (i : CoilIx) : slotPattern i 0 = [] :=
  List.eq_nil_of_length_eq_zero (length_slotPattern i (Nat.zero_le 15))

theorem slotPattern_fifteen (i : CoilIx) : slotPattern i 15 = driveSlots :=
  List.filter_sublist.eq_of_length (length_slotPattern i (le_refl 15))

/-! ### How the slots spread -/

/-- With a density of 8 or more two fifteenths of it hold a whole number. -/
theorem phaseOn_or_next {n p : Nat} (hlow : 8 ≤ n) (hhigh : n ≤ 15) (hp : p < 15) :
    phaseOn n p = true ∨ phaseOn n ((p + 1) % 15) = true := by
  rw [phaseOn_iff, phaseOn_iff]
  by_cases hlast : p = 14
  · subst hlast
    omega
  · have hone : (p + 1) * n = p * n + n := Nat.succ_mul p n
    have htwo : (p + 1 + 1) * n = p * n + n + n := by rw [Nat.succ_mul, hone]
    rw [Nat.mod_eq_of_lt (by omega : p + 1 < 15), hone, htwo]
    omega

/-- With a density of 7 or less two fifteenths of it stay below a whole number. -/
theorem next_off_of_phaseOn {n p : Nat} (hlow : n ≤ 7) (hp : p < 15) (hon : phaseOn n p = true) :
    phaseOn n ((p + 1) % 15) = false := by
  rw [phaseOn_iff] at hon
  rw [Bool.eq_false_iff, ne_eq, phaseOn_iff]
  by_cases hlast : p = 14
  · subst hlast
    omega
  · have hone : (p + 1) * n = p * n + n := Nat.succ_mul p n
    have htwo : (p + 1 + 1) * n = p * n + n + n := by rw [Nat.succ_mul, hone]
    rw [hone] at hon
    rw [Nat.mod_eq_of_lt (by omega : p + 1 < 15), hone, htwo]
    omega

theorem mem_slotPattern_or_next (i : CoilIx) {n slot : Nat} (hlow : 8 ≤ n) (hhigh : n ≤ 15) (hfirst : 1 ≤ slot)
    (hlast : slot < 15) : slot ∈ slotPattern i n ∨ slot + 1 ∈ slotPattern i n := by
  rw [mem_slotPattern, mem_slotPattern, slotPhase_succ i hfirst]
  exact (phaseOn_or_next hlow hhigh (slotPhase_lt i slot)).imp (⟨⟨hfirst, hlast.le⟩, ·⟩)
    (⟨⟨by omega, hlast⟩, ·⟩)

theorem next_notMem_slotPattern {i : CoilIx} {n slot : Nat} (hlow : n ≤ 7) (h : slot ∈ slotPattern i n) :
    slot + 1 ∉ slotPattern i n := by
  obtain ⟨⟨hfirst, -⟩, hon⟩ := mem_slotPattern.mp h
  rw [mem_slotPattern, slotPhase_succ i hfirst, next_off_of_phaseOn hlow (slotPhase_lt i slot) hon]
  simp

end Sys2Proof.Machine

/-! PROOFS. What leaves the slot patterns alone (R93, R95): every operation but the hand-over and a reset. -/

namespace Sys2Proof.Machine

open Sys2Proof

/-- The slot patterns, and whether the allocation point that replaces them is raised. -/
def State.slotPlan (s : State) : Eight (List Nat) × Bool := (s.drive.pattern, s.timebase.allocationRaised)

theorem State.pattern_eq_of_slotPlan {s t : State} (h : t.slotPlan = s.slotPlan) : t.drive.pattern = s.drive.pattern :=
  congrArg Prod.fst h

theorem State.raised_eq_of_slotPlan {s t : State} (h : t.slotPlan = s.slotPlan) :
    t.timebase.allocationRaised = s.timebase.allocationRaised := congrArg Prod.snd h

/-- A fold of operations that keep the plan keeps it. -/
theorem State.foldl_slotPlan {α : Type} {f : State → α → State} (h : ∀ s x, (f s x).slotPlan = s.slotPlan) (l : List α)
    (s : State) : (l.foldl f s).slotPlan = s.slotPlan := by
  induction l generalizing s with
  | nil => rfl
  | cons x l ih => exact (ih _).trans (h s x)

/-! ### Cuts and entries of the module states (R96, R100 to R103, R163 to R170) -/

@[simp] theorem State.cutAll_slotPlan (s : State) : s.cutAll.slotPlan = s.slotPlan := rfl

@[simp] theorem State.withdrawByState_slotPlan (s : State) : s.withdrawByState.slotPlan = s.slotPlan := rfl

@[simp] theorem State.withdrawUntargeted_slotPlan (s : State) : s.withdrawUntargeted.slotPlan = s.slotPlan := rfl

@[simp] theorem State.abortSweep_slotPlan (s : State) : s.abortSweep.slotPlan = s.slotPlan := rfl

@[simp] theorem State.setMainsLost_slotPlan (s : State) : s.setMainsLost.slotPlan = s.slotPlan := rfl

@[simp] theorem State.setLinkBlocked_slotPlan (s : State) : s.setLinkBlocked.slotPlan = s.slotPlan := rfl

@[simp] theorem State.enterStopped_slotPlan (s : State) : s.enterStopped.slotPlan = s.slotPlan := rfl

@[simp] theorem State.enterQuiet_slotPlan (s : State) : s.enterQuiet.slotPlan = s.slotPlan := rfl

@[simp] theorem State.enterSilent_slotPlan (s : State) : s.enterSilent.slotPlan = s.slotPlan := rfl

@[simp] theorem State.enterQuietOrStopped_slotPlan (s : State) : s.enterQuietOrStopped.slotPlan = s.slotPlan := by
  unfold State.enterQuietOrStopped
  split <;> rfl

@[simp] theorem State.enterRunOrStopped_slotPlan (s : State) : s.enterRunOrStopped.slotPlan = s.slotPlan := by
  unfold State.enterRunOrStopped
  split <;> rfl

@[simp] theorem State.reportClash_slotPlan (s : State) : s.reportClash.slotPlan = s.slotPlan := by
  unfold State.reportClash
  split <;> rfl

@[simp] theorem State.leaveStopped_slotPlan (s : State) : s.leaveStopped.slotPlan = s.slotPlan := by
  unfold State.leaveStopped
  split <;> rfl

@[simp] theorem State.senseStop_slotPlan (s : State) : s.senseStop.slotPlan = s.slotPlan := by
  unfold State.senseStop
  split
  case isTrue => split <;> rfl
  case isFalse => split <;> simp

@[simp] theorem State.raiseOvervolt_slotPlan (s : State) : s.raiseOvervolt.slotPlan = s.slotPlan :=
  State.senseStop_slotPlan _

@[simp] theorem State.endOvervoltageDrive_slotPlan (s : State) : s.endOvervoltageDrive.slotPlan = s.slotPlan :=
  State.senseStop_slotPlan _

@[simp] theorem State.takeBusReport_slotPlan (high : Bool) (s : State) : (s.takeBusReport high).slotPlan = s.slotPlan := by
  unfold State.takeBusReport
  split_ifs
  · rfl
  · rfl
  · exact s.endOvervoltageDrive_slotPlan
  · rfl

/-! ### Frames handed to the transmit queue (R44, R142) -/

@[simp] theorem State.hand_slotPlan (key : Key) (level : Nat) (payload : List Byte) (s : State) :
    (s.hand key level payload).slotPlan = s.slotPlan := by
  rw [State.hand_frame]
  rfl

@[simp] theorem State.notice_slotPlan (tag : Option Tag) (kind : NoticeKind) (detail : Nat) (s : State) :
    (s.notice tag kind detail).slotPlan = s.slotPlan := State.hand_slotPlan _ _ _ s

@[simp] theorem State.reportFrozen_slotPlan (s : State) : s.reportFrozen.slotPlan = s.slotPlan := by
  unfold State.reportFrozen
  split
  case isTrue => exact State.foldl_slotPlan (fun s' f => State.hand_slotPlan _ _ _ s') _ s
  case isFalse => rfl

/-! ### The Pan Tracker (R25, R41 to R43) -/

@[simp] theorem State.trackingUpdate_slotPlan (s : State) : s.trackingUpdate.slotPlan = s.slotPlan := by
  unfold State.trackingUpdate
  rw [State.withdrawUntargeted_slotPlan, State.sendUpdate_frame]
  rfl

@[simp] theorem State.confirmIfGone_slotPlan (t : Tag) (s : State) : (s.confirmIfGone t).slotPlan = s.slotPlan := by
  rw [State.confirmIfGone_frame]
  rfl

@[simp] theorem State.departIfLifted_slotPlan (t : Tag) (s : State) : (s.departIfLifted t).slotPlan = s.slotPlan := by
  rw [State.departIfLifted_frame]
  rfl

@[simp] theorem State.runOut_slotPlan (out : LiftedEntry → Bool) (s : State) : (s.runOut out).slotPlan = s.slotPlan := by
  rw [State.runOut_frame]
  rfl

@[simp] theorem State.tickGrace_slotPlan (s : State) : s.tickGrace.slotPlan = s.slotPlan := State.runOut_slotPlan _ s

@[simp] theorem State.graceExpiry_slotPlan (tag : Tag) (s : State) : (s.graceExpiry tag).slotPlan = s.slotPlan := by
  unfold State.graceExpiry
  split <;> simp

/-! ### The Setting Store (R47 to R60) -/

@[simp] theorem State.tickNotice_slotPlan (f : Fragment) (s : State) : (s.tickNotice f).slotPlan = s.slotPlan := by
  unfold State.tickNotice
  split
  case h_1 =>
    split
    case isTrue =>
      unfold State.progressNotice
      split
      case isTrue => exact State.notice_slotPlan _ _ _ s
      case isFalse => split <;> simp
    case isFalse => rfl
  case h_2 => rfl

@[simp] theorem State.refreshNotice_slotPlan (same : Bool) (e : CacheEntry) (s : State) :
    (s.refreshNotice same e).slotPlan = s.slotPlan := by
  unfold State.refreshNotice
  split
  case h_1 => rfl
  case h_2 =>
    split
    case h_1 => rfl
    case h_2 =>
      split_ifs
      · rfl
      · exact State.notice_slotPlan _ _ _ s
      · rfl
      · split <;> simp

@[simp] theorem State.refreshSetting_slotPlan (old e : CacheEntry) (s : State) :
    (s.refreshSetting old e).slotPlan = s.slotPlan := State.refreshNotice_slotPlan _ e s

@[simp] theorem State.appendSetting_slotPlan (e : CacheEntry) (s : State) : (s.appendSetting e).slotPlan = s.slotPlan := by
  unfold State.appendSetting
  split_ifs <;> rfl

@[simp] theorem State.takeSetting_slotPlan (st : Setting) (s : State) : (s.takeSetting st).slotPlan = s.slotPlan := by
  unfold State.takeSetting
  split
  case isTrue => rfl
  case isFalse =>
    split
    case h_1 => rfl
    case h_2 => dsimp only; split <;> simp

@[simp] theorem State.followHome_slotPlan (r : Report) (s : State) : (s.followHome r).slotPlan = s.slotPlan := by
  unfold State.followHome
  split <;> rfl

@[simp] theorem State.ageCache_slotPlan (s : State) : s.ageCache.slotPlan = s.slotPlan := rfl

@[simp] theorem State.tickPrograms_slotPlan (s : State) : s.tickPrograms.slotPlan = s.slotPlan := by
  rw [State.tickPrograms_frame]
  rfl

@[simp] theorem State.cacheExpiry_slotPlan (tag : Tag) (s : State) : (s.cacheExpiry tag).slotPlan = s.slotPlan := by
  unfold State.cacheExpiry
  split <;> rfl

@[simp] theorem State.stepEnd_slotPlan (tag : Tag) (s : State) : (s.stepEnd tag).slotPlan = s.slotPlan := by
  unfold State.stepEnd
  split
  case h_1 => rfl
  case h_2 f hf =>
    split
    case h_1 =>
      split
      case isTrue => exact State.tickNotice_slotPlan f s
      case isFalse => rfl
    case h_2 => rfl

/-! ### The Probe Engine (R1 to R5, R14, R98) -/

@[simp] theorem State.takeProbe_slotPlan (i : CoilIx) (c : Capture) (s : State) :
    (s.takeProbe i c).slotPlan = s.slotPlan := by
  unfold State.takeProbe
  split
  case isTrue =>
    dsimp only
    rw [State.withdrawByState_slotPlan, State.raiseFrequency_frame, State.unsuitableNotice_frame]
    rfl
  case isFalse => rfl

@[simp] theorem State.advanceSweep_slotPlan (n : Nat) (s : State) : (State.advanceSweep n s).slotPlan = s.slotPlan := by
  induction n generalizing s with
  | zero => rfl
  | succ n ih =>
    unfold State.advanceSweep
    split
    case h_1 => rfl
    case h_2 p hp =>
      have hpair : (s.takePair p).slotPlan = s.slotPlan := by simp [State.takePair]
      split
      case isTrue =>
        dsimp only
        split
        case isTrue => simp [State.completeSweep, hpair]
        case isFalse => exact (ih _).trans hpair
      case isFalse => rfl

@[simp] theorem State.startSweep_slotPlan (s : State) : s.startSweep.slotPlan = s.slotPlan := by
  unfold State.startSweep
  split
  case isTrue => exact State.advanceSweep_slotPlan 4 _
  case isFalse => rfl

@[simp] theorem State.ringMark_slotPlan (d : Fin 2) (time : Nat) (s : State) : (s.ringMark d time).slotPlan = s.slotPlan := by
  unfold State.ringMark
  dsimp only
  split
  case isTrue => exact State.advanceSweep_slotPlan 4 _
  case isFalse => rfl

@[simp] theorem State.endProbe_slotPlan (d : Fin 2) (s : State) : (s.endProbe d).slotPlan = s.slotPlan :=
  State.advanceSweep_slotPlan 4 _

/-! ### The Drive Unit and the Sense Unit (R91, R115 to R128) -/

@[simp] theorem State.startDrive_slotPlan (s : State) : s.startDrive.slotPlan = s.slotPlan := rfl

@[simp] theorem State.driveMatch_slotPlan (count : Nat) (s : State) : (s.driveMatch count).slotPlan = s.slotPlan := by
  unfold State.driveMatch
  split <;> rfl

@[simp] theorem State.closeHalfCycle_slotPlan (s : State) : s.closeHalfCycle.slotPlan = s.slotPlan := rfl

@[simp] theorem State.reportBus_slotPlan (s : State) : s.reportBus.slotPlan = s.slotPlan := by
  unfold State.reportBus
  split
  case isTrue => exact State.takeBusReport_slotPlan _ _
  case isFalse => rfl

@[simp] theorem State.currentSample_slotPlan (i : CoilIx) (count : Nat) (sample : BitVec 12) (s : State) :
    (s.currentSample i count sample).slotPlan = s.slotPlan := by
  unfold State.currentSample
  split_ifs <;> rfl

@[simp] theorem State.faultEnd_slotPlan (i : CoilIx) (s : State) : (s.faultEnd i).slotPlan = s.slotPlan := by
  unfold State.faultEnd
  split <;> rfl

@[simp] theorem State.watchBus_slotPlan (v : Nat) (s : State) : (s.watchBus v).slotPlan = s.slotPlan := by
  unfold State.watchBus
  dsimp only
  split_ifs
  · exact State.raiseOvervolt_slotPlan _
  · rfl
  · rfl

@[simp] theorem State.busConversion_slotPlan (value : BitVec 10) (s : State) :
    (s.busConversion value).slotPlan = s.slotPlan := by
  unfold State.busConversion
  dsimp only
  split
  case isTrue => exact State.watchBus_slotPlan _ _
  case isFalse => rfl

@[simp] theorem State.readSink_slotPlan (code : BitVec 12) (s : State) : (s.readSink code).slotPlan = s.slotPlan := by
  unfold State.readSink
  dsimp only
  split <;> rfl

@[simp] theorem State.temperatureReadings_slotPlan (codes : Eight (BitVec 12)) (sink : BitVec 12) (s : State) :
    (s.temperatureReadings codes sink).slotPlan = s.slotPlan := by
  unfold State.temperatureReadings
  split
  case isTrue => exact State.readSink_slotPlan sink _
  case isFalse => rfl

/-! ### Window starts and second ticks (R89, R90) -/

@[simp] theorem State.removePeers_slotPlan (out : PeerEntry → Bool) (s : State) :
    (s.removePeers out).slotPlan = s.slotPlan := by
  unfold State.removePeers
  exact State.foldl_slotPlan (fun s' (e : PeerEntry) => s'.confirmIfGone_slotPlan e.report.tag) _ _

@[simp] theorem State.checkBlocked_slotPlan (s : State) : s.checkBlocked.slotPlan = s.slotPlan := by
  have hcount : s.countBlocked.slotPlan = s.slotPlan := by
    unfold State.countBlocked
    split_ifs
    · rfl
    · rfl
    · rfl
    · rfl
    · exact s.setLinkBlocked_slotPlan
  exact hcount

@[simp] theorem State.linkBlockedSet_slotPlan (s : State) : s.linkBlockedSet.slotPlan = s.slotPlan := by
  unfold State.linkBlockedSet
  split <;> simp

@[simp] theorem State.openWindow_slotPlan (s : State) : s.openWindow.slotPlan = s.slotPlan := by
  unfold State.openWindow
  rw [State.startSweep_slotPlan, State.reportFrozen_slotPlan]
  exact (State.checkBlocked_slotPlan _).trans (State.removePeers_slotPlan _ _)

@[simp] theorem State.panelsAbsent_slotPlan (s : State) : s.panelsAbsent.slotPlan = s.slotPlan := by
  unfold State.panelsAbsent
  dsimp only
  split
  case isTrue => exact State.enterQuietOrStopped_slotPlan _
  case isFalse => rfl

@[simp] theorem State.tickAbsence_slotPlan (s : State) : s.tickAbsence.slotPlan = s.slotPlan := by
  unfold State.tickAbsence
  split_ifs
  · rfl
  · exact s.panelsAbsent_slotPlan
  · rfl

@[simp] theorem State.tickPans_slotPlan (s : State) : s.tickPans.slotPlan = s.slotPlan := by
  unfold State.tickPans
  split <;> simp

@[simp] theorem State.takeSecondTick_slotPlan (s : State) : s.takeSecondTick.slotPlan = s.slotPlan := by
  unfold State.takeSecondTick
  rw [State.tickAbsence_slotPlan, State.tickPans_slotPlan]
  rfl

@[simp] theorem State.panelAbsence_slotPlan (s : State) : s.panelAbsence.slotPlan = s.slotPlan := by
  unfold State.panelAbsence
  split <;> simp

/-! ### The Timebase (R84 to R90): a boundary raises the allocation point and does not take it -/

@[simp] theorem State.loadingExit_slotPlan (s : State) : s.loadingExit.slotPlan = s.slotPlan := by
  unfold State.loadingExit
  split
  case isTrue => exact State.enterQuietOrStopped_slotPlan _
  case isFalse => rfl

/-- With no allocation point raised, none of the events taken before a boundary is a hand-over (log entry 3). -/
theorem State.takeRaised_slotPlan {s : State} (h : s.timebase.allocationRaised = false) :
    s.takeRaised.slotPlan = s.slotPlan := by
  have hwindow (t : State) : (if t.timebase.windowStartRaised then t.openWindow else t).slotPlan = t.slotPlan := by
    split <;> simp
  have hsecond (t : State) : (if t.timebase.secondTickRaised then t.takeSecondTick else t).slotPlan = t.slotPlan := by
    split <;> simp
  have hbefore := (hsecond _).trans ((hwindow _).trans s.loadingExit_slotPlan)
  unfold State.takeRaised
  dsimp only
  rw [if_neg (by simp [State.raised_eq_of_slotPlan hbefore, h])]
  exact hbefore

theorem State.boundary_pattern (s : State) : s.boundary.drive.pattern = s.drive.pattern := by
  have hclose : s.closeHalfCycle.reportBus.drive.pattern = s.drive.pattern := State.pattern_eq_of_slotPlan (by simp)
  have hslot (t : State) : t.startSlot.drive.pattern = t.drive.pattern := by
    unfold State.startSlot
    split_ifs <;> rfl
  exact (hslot _).trans hclose

theorem State.setClass_pattern (time mean : Nat) (s : State) : (s.setClass time mean).drive.pattern = s.drive.pattern := by
  unfold State.setClass
  rw [State.pattern_eq_of_slotPlan (State.reportBus_slotPlan _)]

theorem State.measure_pattern (time : Nat) (s : State) : (s.measure time).drive.pattern = s.drive.pattern := by
  unfold State.measure
  dsimp only
  split_ifs
  · rfl
  · rfl
  · rfl
  · rfl
  · exact s.setClass_pattern time _

theorem State.zeroCrossing_pattern (time : Nat) {s : State} (h : s.timebase.allocationRaised = false) :
    (s.zeroCrossing time).drive.pattern = s.drive.pattern := by
  unfold State.zeroCrossing
  split
  case isTrue => exact s.measure_pattern time
  case isFalse =>
    unfold State.crossing
    split
    case h_1 =>
      split
      case isTrue => exact (State.boundary_pattern _).trans (State.pattern_eq_of_slotPlan (State.takeRaised_slotPlan h))
      case isFalse => rfl
    case h_2 => rfl

theorem State.synthetic_pattern {s : State} (h : s.timebase.allocationRaised = false) :
    s.synthetic.drive.pattern = s.drive.pattern := by
  unfold State.synthetic
  split
  case h_1 r p hr hp =>
    split
    case isTrue => rfl
    case isFalse =>
      have hboundary :=
        (State.boundary_pattern { s.takeRaised with timebase := flywheel r p s.takeRaised.timebase }).trans
          (State.pattern_eq_of_slotPlan (State.takeRaised_slotPlan h))
      dsimp only
      split
      case isTrue => exact hboundary
      case isFalse => exact hboundary
  case h_2 => rfl

@[simp] theorem State.mainsLostSet_slotPlan (s : State) : s.mainsLostSet.slotPlan = s.slotPlan := by
  unfold State.mainsLostSet
  split <;> simp

theorem State.mainsLostClear_pattern (s : State) : s.mainsLostClear.drive.pattern = s.drive.pattern := by
  unfold State.mainsLostClear
  split <;> rfl

/-! ### The stop line and the panels (R164 to R169) -/

@[simp] theorem State.takePanel_slotPlan (p : PanelState) (s : State) : (s.takePanel p).slotPlan = s.slotPlan := by
  have hact (t : State) : (t.actOnPanel p).slotPlan = t.slotPlan := by
    unfold State.actOnPanel
    split <;> simp
  exact hact _

@[simp] theorem State.overvoltageDriveRelease_slotPlan (s : State) : s.overvoltageDriveRelease.slotPlan = s.slotPlan := by
  unfold State.overvoltageDriveRelease
  split <;> simp

/-! ### The line (R131 to R147) -/

@[simp] theorem State.lineIdle_slotPlan (s : State) : s.lineIdle.slotPlan = s.slotPlan := by
  unfold State.lineIdle
  dsimp only
  split_ifs <;> rfl

@[simp] theorem State.contentionLost_slotPlan (s : State) : s.contentionLost.slotPlan = s.slotPlan := by
  unfold State.contentionLost
  split <;> rfl

@[simp] theorem State.contentionWon_slotPlan (s : State) : s.contentionWon.slotPlan = s.slotPlan := by
  unfold State.contentionWon
  split <;> rfl

@[simp] theorem State.collision_slotPlan (s : State) : s.collision.slotPlan = s.slotPlan := by
  unfold State.collision
  split
  case h_1 => rfl
  case h_2 => exact State.reportClash_slotPlan _

@[simp] theorem State.ownFrameEnd_slotPlan (acknowledged rejected : Bool) (s : State) :
    (s.ownFrameEnd acknowledged rejected).slotPlan = s.slotPlan := by
  unfold State.ownFrameEnd
  split <;> rfl

@[simp] theorem State.aloneSet_slotPlan (s : State) : s.aloneSet.slotPlan = s.slotPlan := by
  unfold State.aloneSet
  split <;> rfl

@[simp] theorem State.markSlots_slotPlan (ack reject : Bool) (s : State) : (s.markSlots ack reject).slotPlan = s.slotPlan := rfl

@[simp] theorem State.countMalformed_slotPlan (s : State) : s.countMalformed.slotPlan = s.slotPlan := rfl

@[simp] theorem State.storeReport_slotPlan (q : Position) (r : Report) (s : State) :
    (s.storeReport q r).slotPlan = s.slotPlan := by
  have htest (e : Option PeerEntry) (t : State) : (t.testEvicted e).slotPlan = t.slotPlan := by
    unfold State.testEvicted
    split <;> simp
  unfold State.storeReport
  rw [State.followHome_slotPlan, State.departIfLifted_slotPlan, htest]
  rfl

@[simp] theorem State.closePeer_slotPlan (q : Position) (t : Tag) (s : State) : (s.closePeer q t).slotPlan = s.slotPlan := by
  rw [State.closePeer_frame]
  rfl

@[simp] theorem State.handleFrame_slotPlan (kind : FrameKind) (source : LinkPos) (payload : List Byte) (s : State) :
    (s.handleFrame kind source payload).slotPlan = s.slotPlan := by
  unfold State.handleFrame
  split
  case h_1 => unfold State.receivePanelState; split <;> simp
  case h_2 => unfold State.receiveSetting; split <;> simp
  case h_3 => unfold State.receiveFragment; split <;> simp
  case h_4 => unfold State.receiveStatus; split <;> rfl
  case h_5 => rfl

@[simp] theorem State.takeFrame_slotPlan (kind : FrameKind) (source : LinkPos) (payload : List Byte) (s : State) :
    (s.takeFrame kind source payload).slotPlan = s.slotPlan := by
  unfold State.takeFrame
  split
  case isTrue => rfl
  case isFalse => split <;> simp

@[simp] theorem State.receiveLine_slotPlan (bits : List Bool) (s : State) : (s.receiveLine bits).slotPlan = s.slotPlan := by
  unfold State.receiveLine
  split
  case isTrue => rfl
  case isFalse =>
    split
    case h_1 => rfl
    case h_2 => rfl
    case h_3 => simp

@[simp] theorem State.positionClash_slotPlan (s : State) : s.positionClash.slotPlan = s.slotPlan := by
  unfold State.positionClash
  split
  case isTrue => rfl
  case isFalse => simp

/-! ### The setup memory (R174 to R176) -/

@[simp] theorem State.setupReadEnd_slotPlan (image : List Byte) (s : State) : (s.setupReadEnd image).slotPlan = s.slotPlan := by
  unfold State.setupReadEnd
  split
  case isTrue => dsimp only; split <;> rfl
  case isFalse => rfl

/-! ### Every command but RESET -/

/-- A held device ignores a command, and the meaning of a command taken decides the patterns it leaves (R172). -/
theorem pattern_of_live {f : State → State} {s t : State} (hf : (f s).drive.pattern = s.drive.pattern)
    (h : live s f = .next t) : t.drive.pattern = s.drive.pattern := by
  cases h
  split
  case isTrue => rfl
  case isFalse => exact hf

theorem pattern_of_live_slotPlan {f : State → State} {s t : State} (hf : (f s).slotPlan = s.slotPlan)
    (h : live s f = .next t) : t.drive.pattern = s.drive.pattern :=
  pattern_of_live (State.pattern_eq_of_slotPlan hf) h

/-- R93, R95: with no allocation point raised no command but RESET moves a slot pattern. -/
theorem exec_pattern {c : Instr} {s t : State} (hraised : s.timebase.allocationRaised = false)
    (hreset : ∀ cause, c ≠ .reset cause) (h : exec c s = .next t) : t.drive.pattern = s.drive.pattern := by
  cases c with
  | reset cause => exact absurd rfl (hreset cause)
  | endOfReset straps => cases h; split <;> rfl
  | stopLineAssertion =>
    cases h
    split
    case isTrue => rfl
    case isFalse => exact State.pattern_eq_of_slotPlan (State.senseStop_slotPlan _)
  | stopLineRelease =>
    cases h
    split
    case isTrue => rfl
    case isFalse => exact State.pattern_eq_of_slotPlan (State.senseStop_slotPlan _)
  | zeroCrossing time => exact pattern_of_live (State.zeroCrossing_pattern time hraised) h
  | syntheticBoundary => exact pattern_of_live (State.synthetic_pattern hraised) h
  | mainsLostClear => exact pattern_of_live (State.mainsLostClear_pattern s) h
  | allocationPoint => exact pattern_of_live_slotPlan (by rw [if_neg (by simp [hraised])]) h
  | windowStart => exact pattern_of_live_slotPlan (by split <;> simp) h
  | secondTick => exact pattern_of_live_slotPlan (by split <;> simp) h
  | probePulseEnd time => exact pattern_of_live_slotPlan rfl h
  | setupReadEnd image => exact pattern_of_live_slotPlan (State.setupReadEnd_slotPlan image s) h
  | loadingExit => exact pattern_of_live_slotPlan s.loadingExit_slotPlan h
  | mainsLostSet => exact pattern_of_live_slotPlan s.mainsLostSet_slotPlan h
  | faultEnd coil => exact pattern_of_live_slotPlan (State.faultEnd_slotPlan coil s) h
  | peerFragmentAgeOut source tag => exact pattern_of_live_slotPlan (State.removePeers_slotPlan _ s) h
  | linkBlockedSet => exact pattern_of_live_slotPlan s.linkBlockedSet_slotPlan h
  | temperatureReadings codes sink => exact pattern_of_live_slotPlan (State.temperatureReadings_slotPlan codes sink s) h
  | ringMark detector time => exact pattern_of_live_slotPlan (State.ringMark_slotPlan detector time s) h
  | ringDecayed detector => exact pattern_of_live_slotPlan (State.endProbe_slotPlan detector s) h
  | timeLimit detector => exact pattern_of_live_slotPlan (State.endProbe_slotPlan detector s) h
  | cacheExpiry tag => exact pattern_of_live_slotPlan (State.cacheExpiry_slotPlan tag s) h
  | stepEnd tag => exact pattern_of_live_slotPlan (State.stepEnd_slotPlan tag s) h
  | graceExpiry tag => exact pattern_of_live_slotPlan (State.graceExpiry_slotPlan tag s) h
  | panelAbsence => exact pattern_of_live_slotPlan s.panelAbsence_slotPlan h
  | currentSample coil count sample => exact pattern_of_live_slotPlan (State.currentSample_slotPlan coil count sample s) h
  | busConversion value => exact pattern_of_live_slotPlan (State.busConversion_slotPlan value s) h
  | overvoltageDriveRelease => exact pattern_of_live_slotPlan s.overvoltageDriveRelease_slotPlan h
  | lineIdle => exact pattern_of_live_slotPlan s.lineIdle_slotPlan h
  | contentionLost => exact pattern_of_live_slotPlan s.contentionLost_slotPlan h
  | contentionWon => exact pattern_of_live_slotPlan s.contentionWon_slotPlan h
  | collision => exact pattern_of_live_slotPlan s.collision_slotPlan h
  | ownFrameEnd ack reject => exact pattern_of_live_slotPlan (State.ownFrameEnd_slotPlan ack reject s) h
  | aloneSet => exact pattern_of_live_slotPlan s.aloneSet_slotPlan h
  | frameReject bits => exact pattern_of_live_slotPlan (State.receiveLine_slotPlan bits s) h
  | panelState source payload => exact pattern_of_live_slotPlan (State.takeFrame_slotPlan _ source payload s) h
  | panSetting source payload => exact pattern_of_live_slotPlan (State.takeFrame_slotPlan _ source payload s) h
  | fragment source payload => exact pattern_of_live_slotPlan (State.takeFrame_slotPlan _ source payload s) h
  | moduleStatus source payload => exact pattern_of_live_slotPlan (State.takeFrame_slotPlan _ source payload s) h
  | panNotice source payload => exact pattern_of_live_slotPlan (State.takeFrame_slotPlan _ source payload s) h
  | positionClash => exact pattern_of_live_slotPlan s.positionClash_slotPlan h
  | driveCounterMatch count => exact pattern_of_live_slotPlan (State.driveMatch_slotPlan count s) h
  | ignoredKindFrame kind source => exact pattern_of_live_slotPlan (State.takeFrame_slotPlan _ source [] s) h

end Sys2Proof.Machine

/-! PROOFS. R95 (spec/05): the slot pattern of a density, and its stay from hand-over to hand-over. -/

namespace Sys2Proof.Machine

open Sys2Proof

/-- R99: a coil is driven only in an on slot of its pattern and with a density above 0. -/
theorem State.drives_density_slot {s : State} {i : CoilIx} (h : s.drives i = true) :
    0 < s.drive.density.get i ∧ s.timebase.halfCycle.val ∈ s.drive.pattern.get i := by
  simp only [State.drives, Bool.and_eq_true, decide_eq_true_eq, List.contains_iff_mem] at h
  obtain ⟨⟨⟨⟨⟨-, hdensity⟩, hslot⟩, -⟩, -⟩, -⟩ := h
  exact ⟨hdensity, hslot⟩

/-- Settles O28: the phases of the slots telescope R95's terms to `n`, and only the hand-over and a reset write a pattern. -/
theorem slotPatternIsEvenAndFixed : Obligations.SlotPatternIsEvenAndFixed := by
  refine ⟨fun i n hn => ⟨fun slot => ?expression, ?injective, length_slotPattern i hn, slotPattern_zero i,
    slotPattern_fifteen i, ?even, ?apart⟩, ?shared, ?fixed, ?driven⟩
  case expression => rw [mem_slotPattern, phaseOn_iff, slotPhase, and_assoc]
  case injective => exact fun a b ha ha' hb hb' h => slotPhase_injOn ⟨ha, ha'⟩ ⟨hb, hb'⟩ h
  case even => exact fun hlow slot hfirst hlast => mem_slotPattern_or_next i hlow hn hfirst hlast
  case apart => exact fun hlow slot h => next_notMem_slotPattern hlow h
  case shared => decide
  case fixed => exact fun c s t hraised hreset h => exec_pattern hraised hreset h
  case driven => exact fun s i h => State.drives_density_slot (by simpa using h)

end Sys2Proof.Machine

/-! PROOFS. What a cause that begins a reset leaves in the Supervisor and the Sense Unit (R114, R162, R172). -/

namespace Sys2Proof.Machine

open Sys2Proof

theorem exec_reset (cause : ResetCause) (s : State) : exec (.reset cause) s = .next (s.resetBy cause) := rfl

/-- R172: a reset that has seen one cause records that cause. -/
theorem recordedCause_single (cause : ResetCause) :
    recordedCause (decide (cause = .powerOn)) (decide (cause = .supplyDip)) = cause := by
  cases cause <;> rfl

/-- R172: of a device that is not held, a cause starts the reset afresh and is the first one it sees. -/
theorem State.resetBy_of_not_held (cause : ResetCause) {s : State} (h : s.sup.held = false) :
    s.resetBy cause = { s.restart with sup := s.restart.sup.seeCause cause } := by
  simp [State.resetBy, h]

/-- Table 10-1, with what this reset has seen and the pin of the stop line. -/
theorem State.resetBy_sup (cause : ResetCause) {s : State} (h : s.sup.held = false) :
    (s.resetBy cause).sup =
      { Supervisor.reset with
        resetCause := cause
        sawPowerOn := decide (cause = .powerOn)
        sawDip := decide (cause = .supplyDip)
        stopExternal := s.sup.stopExternal } := by
  simp [State.resetBy_of_not_held cause h, State.restart, Supervisor.seeCause, recordedCause_single]

theorem State.resetBy_sense (cause : ResetCause) {s : State} (h : s.sup.held = false) :
    (s.resetBy cause).sense = Sense.reset := by
  rw [State.resetBy_of_not_held cause h]; rfl

/-- Settles O5: the items of Table 10-1 are read off `State.resetBy_sup`, those of Table 7-1 off `State.resetBy_sense`. -/
theorem resetValuesOfSupervisorAndSense : Obligations.ResetValuesOfSupervisorAndSense := by
  intro cause s hrunning
  refine ⟨s.resetBy cause, exec_reset cause s, ?_⟩
  rw [State.resetBy_sup cause hrunning, State.resetBy_sense cause hrunning]
  simp [Supervisor.reset, Sense.reset, Accumulator.clear]

end Sys2Proof.Machine

/-! PROOFS. What a command is made of: every command is a sequence of moves, each one change of one part of the state with what the
change rests on. An invariant is then kept by every command once it is kept by every move. -/

namespace Sys2Proof.Machine

open Sys2Proof

/-! ### The moves -/

/-- R141 to R143: the queue keeps its size and its keys, and one entry contends at most. -/
structure QueueSound (q : List QueueEntry) : Prop where
  size : q.length ≤ Config.queueSize
  keys : (q.map fun e => e.key).Nodup
  contends : (q.filter fun e => e.contending).length ≤ 1

/-- A change of the link that leaves roster and peer table, keeps the queue sound and sets no LINK_BLOCKED. -/
structure Link.Served (l m : Link) : Prop where
  roster : m.roster = l.roster
  peers : m.peers = l.peers
  blocked : m.linkBlocked = true → l.linkBlocked = true
  queue : QueueSound l.queue → QueueSound m.queue

/-- A change of the Supervisor that keeps the module state, the hold, the reading of the setup and the position. -/
structure Supervisor.Touched (u v : Supervisor) : Prop where
  state : v.state = u.state
  held : v.held = u.held
  reading : v.reading = u.reading
  position : v.position = u.position

/-- A change of a coil record that leaves floor, lift and heating flag and does not end the state HEATING. -/
structure Coil.Serviced (c d : Coil) : Prop where
  fitted : d.fitted = c.fitted
  floor : d.floor = c.floor
  lift : d.liftSuspected = c.liftSuspected
  heating : d.heating = c.heating
  state : coilState c = .heating → coilState d = .heating

/-- The module is past start-up, or about to leave LOADING (R163, R164, R177). -/
def State.Ready (s : State) : Prop :=
  s.loadingDone = true ∨ s.sup.state = .quiet ∨ s.sup.state = .run ∨ s.sup.state = .stopped

/-- A waiting window start is one of slot 0. -/
def State.WindowInSlot (s : State) : Prop := s.timebase.windowStartRaised = true → s.timebase.halfCycle = 0

/-- One move of a command. `W` is what a window start of the command may take for granted of its slot. -/
inductive State.Move (W : Prop) : State → State → Prop where
  | timebase {s : State} (t : Timebase) (mains : t.mainsClass = s.timebase.mainsClass)
      (slot : t.halfCycle = s.timebase.halfCycle)
      (window : t.windowStartRaised = true → s.timebase.windowStartRaised = true)
      (allocation : t.allocationRaised = s.timebase.allocationRaised)
      (lost : t.mainsLost = true → s.timebase.mainsLost = true) : Move W s { s with timebase := t }
  | setClass {s : State} (t : Timebase) (unknown : s.timebase.mainsClass = .unknown) (slot : t.halfCycle = 0)
      (allocation : t.allocationRaised = false) : Move W s { s with timebase := t }
  | advance {s : State} (taken : s.timebase.allocationRaised = false) (idle : ∀ i, s.drive.driven.get i = false) :
      Move W s
        { s with timebase := advanceCounters s.timebase, drive := { s.drive with counter := 0 } }.startSlot
  | takeAllocation {s : State} (idle : s.probe.sweep = none) :
      Move W s { s with timebase := { s.timebase with allocationRaised := false } }
  | setMainsLost (s : State) : Move W s s.setMainsLost
  | setLinkBlocked (s : State) : Move W s s.setLinkBlocked
  | link {s : State} (l : Link) (served : s.link.Served l) : Move W s { s with link := l }
  | roster {s : State} (r : Eight RosterEntry)
      (heard : ∀ q st, (r.get q).content = some st →
        (s.link.roster.get q).content = some st ∨ ∃ payload, decodeStatus payload = some st) :
      Move W s { s with link := { s.link with roster := r } }
  | peers {s : State} (p : List PeerEntry)
      (kept : (p.map fun e => (e.source, e.report)).Sublist (s.link.peers.map fun e => (e.source, e.report)))
      (young : (∀ e ∈ s.link.peers, e.age ≤ 3) → ∀ e ∈ p, e.age ≤ 3) :
      Move W s { s with link := { s.link with peers := p } }
  | storePeer {s : State} (q : Position) (r : Report) (awake : s.sup.held = false) (foreign : q ≠ s.sup.position)
      (decoded : ∃ payload, decodeFragment payload = some (.report r)) :
      Move W s { s with link := { s.link with peers := storePeer q r s.link.peers } }
  | lifted {s : State} (l : List LiftedEntry)
      (kept : (l.map fun e => (e.tag, e.program)).Sublist (s.tracker.lifted.map fun e => (e.tag, e.program))) :
      Move W s { s with tracker := { s.tracker with lifted := l } }
  | follow {s : State} (r : Report) (decoded : ∃ payload, decodeFragment payload = some (.report r)) :
      Move W s { s with tracker := { s.tracker with pans := s.tracker.pans.map (followFragment s.cache r) } }
  | expire (gone : Tag → Bool) (s : State) : Move W s (s.expire gone)
  | ageCache (s : State) : Move W s { s with cache := s.cache.map fun e => { e with age := e.age + 1 } }
  | tickPans (due : Fragment → Bool) (s : State) :
      Move W s
        { s with
          tracker :=
            { s.tracker with pans := s.tracker.pans.map fun f => if due f then tickFragment s.cache f else f } }
  | refresh {s : State} (old e : CacheEntry) (cached : cacheEntry s.cache e.tag = some old)
      (decoded : ∃ payload st, decodeSetting payload = some st ∧ st.steps = e.steps) :
      Move W s
        { s with
          cache := (s.cache.filter fun x => !decide (x.tag = e.tag)) ++ [e]
          tracker := refreshTracker (decide (old.revision = e.revision)) e s.tracker }
  | append {s : State} (e : CacheEntry) (new : cacheEntry s.cache e.tag = none)
      (decoded : ∃ payload st, decodeSetting payload = some st ∧ st.steps = e.steps) : Move W s (s.appendSetting e)
  | sup {s : State} (u : Supervisor) (touched : s.sup.Touched u)
      (line : (u.stopExternal || u.overvoltageDrive) = true → s.stopAsserted = true ∨ s.sup.held = true) :
      Move W s { s with sup := u }
  | assertLine {s : State} (u : Supervisor) (touched : s.sup.Touched u) : Move W s { s with sup := u }.cutAll
  | sense {s : State} (n : Sense) (hot : n.sinkHot = s.sense.sinkHot) : Move W s { s with sense := n }
  | coils {s : State} (c : Eight Coil) (serviced : ∀ i, (s.coils.get i).Serviced (c.get i)) : Move W s { s with coils := c }
  | cut (cut counted : CoilIx → Bool) (s : State) : Move W s (s.cutSet cut counted)
  | overcurrent (i : CoilIx) (s : State) : Move W s (s.overcurrent i)
  | readings (codes : Eight (BitVec 12)) (sink : BitVec 12) (s : State) :
      Move W s ((s.readCoils codes).readSink sink).withdrawByState
  | probed {s : State} (i : CoilIx) (c : Capture) (fitted : (s.coils.get i).fitted = true) :
      Move W s
        ({ s with coils := s.coils.update i (takeResult (s.setup.coils.get i) c.ringCount c.ringPeriod) }.raiseFrequency
          i).withdrawByState
  | captures {s : State} (p : Probe) (sweep : p.sweep = s.probe.sweep)
      (first : p.unit0.phase = .pulse → s.probe.unit0.phase = .pulse)
      (second : p.unit1.phase = .pulse → s.probe.unit1.phase = .pulse) : Move W s { s with probe := p }
  | abortSweep (s : State) : Move W s s.abortSweep
  | startPair {s : State} (p : Fin 4)
      (due : s.probe.sweep ≠ none ∨ s.sup.state = .run ∧ (W → s.timebase.halfCycle = 0)) : Move W s (s.startPair p)
  | track (s : State) :
      Move W s
        { s with
          tracker := { pans := s.runUpdate.pans, lifted := s.runUpdate.lifted, serial := s.runUpdate.serial }
          alloc := { s.alloc with joined := s.alloc.joined || s.runUpdate.joined } }
  | figures (a : Allocator) (share : Fragment → Nat) (s : State) :
      Move W s
        { s with
          alloc := a
          tracker := { s.tracker with pans := s.tracker.pans.map fun f => { f with share := share f } } }
  | handOver {s : State} (l : Link) (served : s.link.Served l)
      (granted : ∀ i, 0 < s.alloc.grant.get i → s.alloc.assigned.get i = true) :
      Move W s { s.decideLock.setFrequency.setDensities with link := l }.startDrive
  | driveMatch (count : Nat) (s : State) : Move W s (s.driveMatch count)
  | closeHalfCycle (s : State) : Move W s s.closeHalfCycle
  | enterStopped {s : State} (ready : s.Ready) : Move W s s.enterStopped
  | enterQuiet {s : State} (ready : s.Ready) : Move W s s.enterQuiet
  | enterRun {s : State} (cause : StopCause) (idle : s.sup.state = .quiet ∨ s.sup.state = .stopped) :
      Move W s { s with sup := { s.sup with state := .run, stopCause := cause } }
  | enterSilent {s : State} (loaded : s.sup.state ≠ .loading) : Move W s s.enterSilent
  | reset (cause : ResetCause) (s : State) : Move W s (s.resetBy cause)
  | endReset {s : State} (straps : BitVec 3) (held : s.sup.held = true) : Move W s (s.endReset straps)
  | setupReadEnd {s : State} (image : List Byte) (awake : s.sup.held = false) : Move W s (s.setupReadEnd image)

/-- A sequence of moves. -/
abbrev State.Moves (W : Prop) : State → State → Prop := Relation.ReflTransGen (State.Move W)

/-- What every move keeps, a sequence of moves keeps. -/
theorem State.Moves.keeps {W : Prop} {P : State → Prop} (h : ∀ s t, State.Move W s t → P s → P t) {s t : State}
    (moves : State.Moves W s t) (hs : P s) : P t := by
  induction moves with
  | refl => exact hs
  | tail _ move ih => exact h _ _ move ih

/-! ### The transmit queue -/

theorem QueueSound.nil : QueueSound [] := ⟨by decide, by simp, by simp⟩

/-- Entries that leave a queue leave it sound. -/
theorem QueueSound.sublist {q r : List QueueEntry} (h : QueueSound q) (sub : r.Sublist q) : QueueSound r where
  size := sub.length_le.trans h.size
  keys := h.keys.sublist (sub.map _)
  contends := (sub.filter _).length_le.trans h.contends

/-- A change of the entries that keeps every key and marks none contending keeps a queue sound. -/
theorem QueueSound.map {q : List QueueEntry} (h : QueueSound q) {f : QueueEntry → QueueEntry} (key : ∀ e, (f e).key = e.key)
    (contending : ∀ e, (f e).contending = true → e.contending = true) : QueueSound (q.map f) where
  size := by simpa using h.size
  keys := by simpa [Function.comp_def, key] using h.keys
  contends := by
    rw [List.filter_map, List.length_map]
    refine le_trans (List.Sublist.length_le (List.monotone_filter_right q fun e he => ?_)) h.contends
    exact contending e he

/-- A waiting entry of a new key goes to the end of a queue that has room. -/
theorem QueueSound.append {q : List QueueEntry} (h : QueueSound q) {e : QueueEntry} (room : q.length < Config.queueSize)
    (new : holdsKey e.key q = false) (waiting : e.contending = false) : QueueSound (q ++ [e]) where
  size := by simpa using room
  keys := by
    have fresh : ∀ x ∈ q, x.key ≠ e.key := by simpa [holdsKey] using new
    simpa [List.nodup_append, h.keys] using fresh
  contends := by simpa [waiting] using h.contends

theorem QueueSound.replaceFrame {q : List QueueEntry} (h : QueueSound q) (key : Key) (payload : List Byte) :
    QueueSound (replaceFrame key payload q) :=
  h.map (fun e => by split_ifs <;> rfl) fun e => by split_ifs <;> simp_all

theorem dropOldest_sublist (level : Nat) (q : List QueueEntry) : (dropOldest level q).Sublist q := List.eraseP_sublist

/-- R144: the waiting entry of the lowest level makes room for one more. -/
theorem dropOldest_length {level : Nat} {q : List QueueEntry} (h : lowestLevel q = some level) :
    (dropOldest level q).length + 1 = q.length := by
  have mem := List.min?_mem h
  obtain ⟨e, he, hl⟩ := List.mem_map.1 mem
  obtain ⟨hq, hw⟩ := List.mem_filter.1 he
  have : (dropOldest level q).length = q.length - 1 :=
    List.length_eraseP_of_mem hq (by simpa [hl] using hw)
  have := List.length_pos_of_mem hq
  omega

/-- R142, R144: a frame handed to the queue keeps it sound. -/
theorem Link.hand_queueSound (key : Key) (level : Nat) (payload : List Byte) {l : Link} (h : QueueSound l.queue) :
    QueueSound (l.hand key level payload).queue := by
  rcases Link.hand_cases key level payload l with ⟨-, eq⟩ | ⟨new, room, eq⟩ | ⟨new, -, m, lowest, -, eq⟩ | ⟨-, -, -, eq⟩ <;>
    rw [eq]
  · exact h.replaceFrame key payload
  · exact h.append room new rfl
  · have sub := dropOldest_sublist m l.queue
    have size := h.size
    have len := dropOldest_length lowest
    refine (h.sublist sub).append (by omega) ?_ rfl
    simp only [holdsKey, List.any_eq_false, decide_eq_true_eq] at new ⊢
    exact fun e he => new e (sub.subset he)
  · exact h

theorem Link.Served.refl (l : Link) : l.Served l := ⟨rfl, rfl, id, id⟩

theorem Link.Served.trans {l m n : Link} (h : l.Served m) (k : m.Served n) : l.Served n :=
  ⟨k.roster.trans h.roster, k.peers.trans h.peers, fun b => h.blocked (k.blocked b), fun q => k.queue (h.queue q)⟩

theorem Link.hand_served (key : Key) (level : Nat) (payload : List Byte) (l : Link) :
    l.Served (l.hand key level payload) where
  roster := by rw [Link.hand_frame]
  peers := by rw [Link.hand_frame]
  blocked := by rw [Link.hand_frame]; exact id
  queue := Link.hand_queueSound key level payload

theorem Link.Served.foldl {α : Type} {f : Link → α → Link} (h : ∀ (l : Link) a, l.Served (f l a)) (as : List α) (l : Link) :
    l.Served (as.foldl f l) := by
  induction as generalizing l with
  | nil => exact .refl l
  | cons a as ih => exact (h l a).trans (ih _)

theorem State.causesHanded_served (s : State) (t : Tag) (l : Link) : l.Served (s.causesHanded t l) :=
  .foldl (fun l _ => l.hand_served _ _ _) _ l

end Sys2Proof.Machine

/-! PROOFS. The operations of the commands as sequences of moves, in the order of the model's files, and every command with them. -/

namespace Sys2Proof.Machine

open Sys2Proof

section Moves

variable {W : Prop}

/-! ### The link (R142, R150) -/

theorem Link.Served.moves {s : State} {l : Link} (h : s.link.Served l) : State.Moves W s { s with link := l } :=
  .single (.link l h)

/-- An operation that changes the link alone, and serves it, is a move. -/
theorem State.moves_of_served {s t : State} (frame : t = { s with link := t.link }) (h : s.link.Served t.link) :
    State.Moves W s t := by
  rw [frame]
  exact h.moves

theorem State.hand_served (key : Key) (level : Nat) (payload : List Byte) (s : State) :
    s.link.Served (s.hand key level payload).link := by
  unfold State.hand
  split
  · exact .refl _
  · exact Link.hand_served key level payload s.link

theorem State.notice_moves (tag : Option Tag) (kind : NoticeKind) (detail : Nat) (s : State) :
    State.Moves W s (s.notice tag kind detail) :=
  State.moves_of_served (State.hand_frame _ _ _ s) (State.hand_served _ _ _ s)

theorem State.foldl_moves {α : Type} {f : State → α → State} (h : ∀ s a, State.Moves W s (f s a)) (as : List α) (s : State) :
    State.Moves W s (as.foldl f s) := by
  induction as generalizing s with
  | nil => exact .refl
  | cons a as ih => exact (h s a).trans (ih _)

theorem State.sendUpdate_moves (closed : List Tag) (requests : List Request) (s : State) :
    State.Moves W s (s.sendUpdate closed requests) := by
  unfold State.sendUpdate
  dsimp only
  refine (State.foldl_moves (fun s' _ => ?_) _ _).trans
    ((State.foldl_moves (fun s' _ => ?_) _ _).trans (State.foldl_moves (fun s' _ => s'.notice_moves _ _ _) _ _))
  · exact State.moves_of_served (s'.handReport_frame _) (State.hand_served _ _ _ s')
  · exact State.moves_of_served (s'.handClosed_frame _) (State.hand_served _ _ _ s')

/-- A count or a mark of the link is changed. -/
theorem State.countMalformed_moves (s : State) : State.Moves W s s.countMalformed :=
  Link.Served.moves ⟨rfl, rfl, id, id⟩

theorem State.markSlots_moves (ack reject : Bool) (s : State) : State.Moves W s (s.markSlots ack reject) :=
  Link.Served.moves ⟨rfl, rfl, id, id⟩

/-! ### Cuts and entries of the module states (R100 to R103, R163 to R170) -/

theorem State.cutSet_moves (cut counted : CoilIx → Bool) (s : State) : State.Moves W s (s.cutSet cut counted) :=
  .single (.cut cut counted s)

theorem State.withdrawUntargeted_moves (s : State) : State.Moves W s s.withdrawUntargeted := s.cutSet_moves _ _

theorem State.enterQuietOrStopped_moves {s : State} (ready : s.Ready) : State.Moves W s s.enterQuietOrStopped := by
  unfold State.enterQuietOrStopped
  split
  · exact .single (.enterStopped ready)
  · exact .single (.enterQuiet ready)

theorem State.reportClash_moves (s : State) : State.Moves W s s.reportClash := by
  unfold State.reportClash
  split
  case h_1 => exact .refl
  case h_2 => exact .refl
  case h_3 loading _ => exact .single (.enterSilent loading)

theorem State.leaveStopped_moves {s : State} (stopped : s.sup.state = .stopped) : State.Moves W s s.leaveStopped := by
  unfold State.leaveStopped
  split
  · exact .single (.enterRun .none (.inr stopped))
  · exact .single (.enterQuiet (.inr (.inr (.inr stopped))))

theorem State.senseStop_moves (s : State) : State.Moves W s s.senseStop := by
  unfold State.senseStop
  split
  case isTrue asserted =>
    split
    case h_1 quiet => exact .single (.enterStopped (.inr (.inl quiet)))
    case h_2 run => exact .single (.enterStopped (.inr (.inr (.inl run))))
    case h_3 => exact .single (.sup _ ⟨rfl, rfl, rfl, rfl⟩ fun _ => .inl asserted)
    case h_4 => exact .refl
  case isFalse =>
    split
    case h_1 stopped => exact State.leaveStopped_moves stopped
    case h_2 => exact .refl

theorem State.raiseOvervolt_moves (s : State) : State.Moves W s s.raiseOvervolt :=
  .head (.assertLine { s.sup with overvoltageDrive := true, clearRun := 0 } ⟨rfl, rfl, rfl, rfl⟩) (State.senseStop_moves _)

theorem State.endOvervoltageDrive_moves (s : State) : State.Moves W s s.endOvervoltageDrive :=
  .head (.sup { s.sup with overvoltageDrive := false, clearRun := 0 } ⟨rfl, rfl, rfl, rfl⟩ fun h => .inl (by
    simp_all [State.stopAsserted])) (State.senseStop_moves _)

theorem State.takeBusReport_moves (high : Bool) (s : State) : State.Moves W s (s.takeBusReport high) := by
  have counted (n : Nat) : State.Moves W s { s with sup := { s.sup with clearRun := n } } :=
    .single (.sup _ ⟨rfl, rfl, rfl, rfl⟩ fun h => .inl (by
      simp only [State.stopAsserted, State.ownStop, Bool.or_eq_true] at h ⊢
      tauto))
  unfold State.takeBusReport
  split_ifs
  · exact counted 0
  · exact counted _
  · exact s.endOvervoltageDrive_moves
  · exact .refl

theorem State.reportBus_moves (s : State) : State.Moves W s s.reportBus := by
  unfold State.reportBus
  split
  · exact .head (.sense { s.sense with busHigh := false } rfl) (State.takeBusReport_moves _ _)
  · exact .refl

/-! ### The Setting Store (R47 to R60) -/

theorem State.tickNotice_served (f : Fragment) (s : State) :
    s.tickNotice f = { s with link := (s.tickNotice f).link } ∧ s.link.Served (s.tickNotice f).link := by
  have notice (tag kind detail) := And.intro (s.notice_frame tag kind detail) (State.hand_served (.notice tag kind) s.setup.noticeLevel
    (encodeNotice tag kind detail) s)
  have same : s = { s with link := s.link } ∧ s.link.Served s.link := ⟨rfl, .refl _⟩
  unfold State.tickNotice State.progressNotice
  split
  · split
    · split
      · exact notice _ _ _
      · split
        · exact notice _ _ _
        · exact same
    · exact same
  · exact same

theorem State.tickNotice_moves (f : Fragment) (s : State) : State.Moves W s (s.tickNotice f) :=
  State.moves_of_served (s.tickNotice_served f).1 (s.tickNotice_served f).2

theorem State.tickPrograms_moves (s : State) : State.Moves W s s.tickPrograms := by
  have frame := State.foldl_link_frame (fun (s : State) f => s.tickNotice f) (fun s' f => (s'.tickNotice_served f).1)
    s.tracker.pans s
  have tick := State.Move.tickPans (W := W) (fun _ => true) (s.tracker.pans.foldl (fun s f => s.tickNotice f) s)
  simp only [if_true] at tick
  refine (State.foldl_moves (fun s' f => s'.tickNotice_moves f) s.tracker.pans s).trans (.single ?_)
  unfold State.tickPrograms
  convert tick using 4
  rw [frame]

theorem State.refreshNotice_moves (same : Bool) (e : CacheEntry) (s : State) : State.Moves W s (s.refreshNotice same e) := by
  unfold State.refreshNotice
  split
  case h_1 => exact .refl
  case h_2 =>
    split
    case h_1 => exact .refl
    case h_2 =>
      split_ifs
      · exact .refl
      · exact s.notice_moves _ _ _
      · exact .refl
      · split
        · exact s.notice_moves _ _ _
        · exact .refl

theorem State.refreshNotice_frame (same : Bool) (e : CacheEntry) (s : State) :
    s.refreshNotice same e = { s with link := (s.refreshNotice same e).link } := by
  unfold State.refreshNotice
  split
  case h_1 => rfl
  case h_2 =>
    split
    case h_1 => rfl
    case h_2 =>
      split_ifs
      · rfl
      · exact s.notice_frame _ _ _
      · rfl
      · split
        · exact s.notice_frame _ _ _
        · rfl

theorem State.refreshSetting_moves {s : State} {old e : CacheEntry} (cached : cacheEntry s.cache e.tag = some old)
    (decoded : ∃ payload st, decodeSetting payload = some st ∧ st.steps = e.steps) :
    State.Moves W s (s.refreshSetting old e) := by
  have noticed := State.refreshNotice_frame (decide (old.revision = e.revision)) e s
  have cached' : cacheEntry (s.refreshNotice (decide (old.revision = e.revision)) e).cache e.tag = some old := by
    rw [noticed]; exact cached
  exact (s.refreshNotice_moves _ e).trans (.head (.refresh old e cached' decoded) (State.withdrawUntargeted_moves _))

theorem State.takeSetting_moves {payload : List Byte} {st : Setting} (decoded : decodeSetting payload = some st) (s : State) :
    State.Moves W s (s.takeSetting st) := by
  unfold State.takeSetting
  split
  case isTrue => exact .refl
  case isFalse =>
    split
    case h_1 => exact State.countMalformed_moves s
    case h_2 =>
      dsimp only
      split
      case h_1 old cached => exact State.refreshSetting_moves cached ⟨payload, st, decoded, rfl⟩
      case h_2 new => exact .single (.append _ new ⟨payload, st, decoded, rfl⟩)

theorem State.followHome_moves {payload : List Byte} {r : Report} (decoded : decodeFragment payload = some (.report r))
    (s : State) : State.Moves W s (s.followHome r) := by
  unfold State.followHome
  split
  · exact .head (.follow r ⟨payload, decoded⟩) (State.withdrawUntargeted_moves _)
  · exact .refl

theorem State.cacheExpiry_moves (tag : Tag) (s : State) : State.Moves W s (s.cacheExpiry tag) := by
  unfold State.cacheExpiry
  split
  · exact .head (.expire _ s) (State.withdrawUntargeted_moves _)
  · exact .refl

theorem State.stepEnd_moves (tag : Tag) (s : State) : State.Moves W s (s.stepEnd tag) := by
  unfold State.stepEnd
  split
  case h_1 => exact .refl
  case h_2 f _ =>
    split
    case h_1 =>
      split
      case isTrue =>
        have tick := State.Move.tickPans (W := W) (fun g => decide (g.tag = tag)) (s.tickNotice f)
        simp only [decide_eq_true_eq] at tick
        exact (s.tickNotice_moves f).trans (.head tick (State.withdrawUntargeted_moves _))
      case isFalse => exact .refl
    case h_2 => exact .refl

/-! ### The Pan Tracker (R25, R41 to R43) -/

theorem State.trackingUpdate_moves (s : State) : State.Moves W s s.trackingUpdate :=
  .head (.track s) ((State.sendUpdate_moves _ _ _).trans (State.withdrawUntargeted_moves _))

theorem State.confirmIfGone_moves (t : Tag) (s : State) : State.Moves W s (s.confirmIfGone t) := by
  unfold State.confirmIfGone
  split
  · refine .head (.lifted (s.tracker.lifted.map fun e => if e.tag = t then { e with confirmed := true } else e) ?_)
      (State.foldl_moves (fun s' _ => s'.notice_moves _ _ _) _ _)
    rw [List.map_map, List.map_congr_left (g := fun e => (e.tag, e.program))]
    intro e _
    simp only [Function.comp_apply]
    split_ifs <;> rfl
  · exact .refl

theorem State.departIfLifted_moves (t : Tag) (s : State) : State.Moves W s (s.departIfLifted t) := by
  unfold State.departIfLifted
  split
  · exact .head (.lifted _ (List.filter_sublist.map _)) (State.foldl_moves (fun s' _ => s'.notice_moves _ _ _) _ _)
  · exact .refl

theorem State.runOut_moves (out : LiftedEntry → Bool) (s : State) : State.Moves W s (s.runOut out) :=
  .head (.lifted _ (List.filter_sublist.map _)) (State.foldl_moves (fun s' _ => s'.notice_moves _ _ _) _ _)

theorem State.tickGrace_moves (s : State) : State.Moves W s s.tickGrace := by
  refine (s.runOut_moves _).tail (.lifted _ ?_)
  rw [List.map_map]
  exact List.Sublist.refl _

theorem State.graceExpiry_moves (tag : Tag) (s : State) : State.Moves W s (s.graceExpiry tag) := by
  unfold State.graceExpiry
  split
  · exact s.runOut_moves _
  · exact .refl

theorem State.reportFrozen_moves (s : State) : State.Moves W s s.reportFrozen := by
  unfold State.reportFrozen
  split
  · exact State.foldl_moves (fun s' _ => State.moves_of_served (s'.handReport_frame _) (State.hand_served _ _ _ s')) _ _
  · exact .refl

/-! ### The Probe Engine (R1 to R7, R98) -/

theorem State.unsuitableNotice_moves (i : CoilIx) (before : Coil) (s : State) : State.Moves W s (s.unsuitableNotice i before) := by
  unfold State.unsuitableNotice
  split
  · exact s.notice_moves _ _ _
  · exact .refl

theorem State.unsuitableNotice_served (i : CoilIx) (before : Coil) (s : State) :
    s.link.Served (s.unsuitableNotice i before).link := by
  unfold State.unsuitableNotice
  split
  · exact State.hand_served _ _ _ s
  · exact .refl _

/-- R15 beside R98 and R101: the notice of a result and its rise and withdrawals touch different parts. -/
theorem State.takeProbe_eq (i : CoilIx) (c : Capture) (s : State) (fitted : (s.coils.get i).fitted = true) :
    s.takeProbe i c =
      { ({ s with coils := s.coils.update i (takeResult (s.setup.coils.get i) c.ringCount c.ringPeriod) }.raiseFrequency
          i).withdrawByState with
        link :=
          ({ s with coils := s.coils.update i (takeResult (s.setup.coils.get i) c.ringCount c.ringPeriod) }.unsuitableNotice
            i (s.coils.get i)).link } := by
  unfold State.takeProbe
  rw [if_pos fitted]
  dsimp only
  rw [State.unsuitableNotice_frame]
  generalize State.unsuitableNotice i (s.coils.get i) _ = noticed
  unfold State.raiseFrequency
  split_ifs <;> rfl

theorem State.takeProbe_moves (i : CoilIx) (c : Capture) (s : State) : State.Moves W s (s.takeProbe i c) := by
  by_cases fitted : (s.coils.get i).fitted = true
  · rw [s.takeProbe_eq i c fitted]
    refine .tail (.single (.probed i c fitted)) (.link _ ?_)
    rw [State.withdrawByState_link, State.raiseFrequency_frame]
    exact State.unsuitableNotice_served i (s.coils.get i)
      { s with coils := s.coils.update i (takeResult (s.setup.coils.get i) c.ringCount c.ringPeriod) }
  · rw [State.takeProbe, if_neg fitted]

@[simp] theorem State.takeProbe_probe (i : CoilIx) (c : Capture) (s : State) : (s.takeProbe i c).probe = s.probe := by
  rw [State.takeProbe_frame]

theorem State.advanceSweep_moves (n : Nat) (s : State) : State.Moves W s (State.advanceSweep n s) := by
  induction n generalizing s with
  | zero => exact .refl
  | succ n ih =>
    unfold State.advanceSweep
    split
    case h_1 => exact .refl
    case h_2 p hp =>
      split
      case isTrue =>
        have taken : State.Moves W s (s.takePair p) := (s.takeProbe_moves _ _).trans (State.takeProbe_moves _ _ _)
        have sweep : (s.takePair p).probe.sweep = some p := by simp [State.takePair, hp]
        dsimp only
        split
        · exact taken.trans (.head (.abortSweep _) (State.trackingUpdate_moves _))
        · exact taken.trans (.head (.startPair _ (.inl (by simp [sweep]))) (ih _))
      case isFalse => exact .refl

theorem State.startSweep_moves {s : State} (slot : W → s.timebase.halfCycle = 0) : State.Moves W s s.startSweep := by
  unfold State.startSweep
  split
  case isTrue run => exact .head (.startPair 0 (.inr ⟨run, slot⟩)) (State.advanceSweep_moves _ _)
  case isFalse => exact .refl

/-- R2: the end of the pulses starts none. -/
theorem Capture.endPulse_pulse (c : Capture) (time : Nat) : (c.endPulse time).phase ≠ .pulse := by
  unfold Capture.endPulse
  split <;> simp_all

theorem Capture.mark_pulse {c : Capture} {time : Nat} (h : c.accepts time = true) : (c.mark time).phase ≠ .pulse := by
  simp only [Capture.accepts, Bool.and_eq_true, decide_eq_true_eq] at h
  simp only [Capture.mark]
  split <;> simp [h]

theorem Capture.finish_pulse (c : Capture) (h : c.finish.phase = .pulse) : c.phase = .pulse := by
  unfold Capture.finish at h
  split at h <;> simp_all

/-- A changed unit whose pulse, if it is in one, went on is a move of the captures. -/
theorem State.setCapture_moves {s : State} (d : Fin 2) (c : Capture)
    (pulse : c.phase = .pulse → (s.probe.capture d).phase = .pulse) :
    State.Moves W s { s with probe := s.probe.setCapture d c } := by
  refine .single (.captures _ ?_ ?_ ?_) <;> unfold Probe.setCapture <;> unfold Probe.capture at pulse <;> split <;> simp_all

theorem State.pulseEnd_moves (time : Nat) (s : State) : State.Moves W s (s.pulseEnd time) :=
  .single (.captures _ rfl (fun h => absurd h (Capture.endPulse_pulse _ _)) fun h => absurd h (Capture.endPulse_pulse _ _))

theorem State.ringMark_moves (d : Fin 2) (time : Nat) (s : State) : State.Moves W s (s.ringMark d time) := by
  unfold State.ringMark
  dsimp only
  split
  case isTrue accepted =>
    exact (State.setCapture_moves d _ fun h => absurd h (Capture.mark_pulse accepted)).trans (State.advanceSweep_moves _ _)
  case isFalse => exact .refl

theorem State.endProbe_moves (d : Fin 2) (s : State) : State.Moves W s (s.endProbe d) :=
  (State.setCapture_moves d _ (Capture.finish_pulse _)).trans (State.advanceSweep_moves _ _)

end Moves

end Sys2Proof.Machine

/-! PROOFS. The events of the windows, the boundaries and the line as sequences of moves, and every command with them. -/

namespace Sys2Proof.Machine

open Sys2Proof

section Moves

variable {W : Prop}

/-! ### The Drive Unit and the Sense Unit (R93, R115 to R128) -/

theorem State.sense_moves {s : State} (n : Sense) (hot : n.sinkHot = s.sense.sinkHot) : State.Moves W s { s with sense := n } :=
  .single (.sense n hot)

/-- What follows a change of the Sense Unit. -/
theorem State.Moves.afterSense {s t : State} {n : Sense} (moves : State.Moves W { s with sense := n } t)
    (hot : n.sinkHot = s.sense.sinkHot) : State.Moves W s t := .head (.sense n hot) moves

theorem State.currentSample_moves (i : CoilIx) (count : Nat) (sample : BitVec 12) (s : State) :
    State.Moves W s (s.currentSample i count sample) := by
  unfold State.currentSample
  split_ifs
  · exact .single (.overcurrent i s)
  · exact State.sense_moves _ rfl
  · exact .refl

theorem State.watchBus_moves (v : Nat) (s : State) : State.Moves W s (s.watchBus v) := by
  unfold State.watchBus
  dsimp only
  split_ifs
  · exact .afterSense (State.raiseOvervolt_moves _) rfl
  · exact State.sense_moves _ rfl
  · exact State.sense_moves _ rfl

theorem State.busConversion_moves (value : BitVec 10) (s : State) : State.Moves W s (s.busConversion value) := by
  unfold State.busConversion
  dsimp only
  split
  · exact .afterSense (State.watchBus_moves _ _) rfl
  · exact State.sense_moves _ rfl

theorem State.temperatureReadings_moves (codes : Eight (BitVec 12)) (sink : BitVec 12) (s : State) :
    State.Moves W s (s.temperatureReadings codes sink) := by
  unfold State.temperatureReadings
  split
  · exact .tail (State.sense_moves { s.sense with converting := false } rfl) (.readings codes sink _)
  · exact .refl

/-- Table 1-3: the state HEATING. -/
theorem coilState_heating_iff (c : Coil) :
    coilState c = .heating ↔
      c.fitted = true ∧ c.presence = .pan ∧ c.faultTimer = 0 ∧ c.faultRetries ≠ 3 ∧ c.overheat = false ∧ c.held = false ∧
        c.heating = true := by
  unfold coilState Coil.faultActive
  cases c.fitted
  case false => simp
  case true =>
    cases c.presence with
    | absent => simp
    | nonferrous => simp
    | pan =>
      by_cases fault : 0 < c.faultTimer ∨ c.faultRetries = 3
      · simp [fault]
        omega
      · simp [fault]
        split_ifs <;> simp_all

/-- R17, R121: a fault timer that falls makes no coil FAULTED. -/
theorem tickFault_serviced (c : Coil) : c.Serviced (tickFault c) where
  fitted := rfl
  floor := rfl
  lift := rfl
  heating := rfl
  state := fun h => by
    rw [coilState_heating_iff] at h ⊢
    simpa [tickFault, h.2.2.1] using h

theorem cleanWindow_serviced (c : Coil) : c.Serviced (cleanWindow c) where
  fitted := rfl
  floor := rfl
  lift := rfl
  heating := rfl
  state := fun h => by
    rw [coilState_heating_iff] at h ⊢
    obtain ⟨fitted, pan, timer, retries, rest⟩ := h
    refine ⟨fitted, pan, timer, ?_, rest⟩
    simp only [cleanWindow]
    split_ifs
    · decide
    · exact retries

theorem Coil.Serviced.refl (c : Coil) : c.Serviced c := ⟨rfl, rfl, rfl, rfl, id⟩

theorem Coil.Serviced.trans {c d e : Coil} (h : c.Serviced d) (k : d.Serviced e) : c.Serviced e :=
  ⟨k.fitted.trans h.fitted, k.floor.trans h.floor, k.lift.trans h.lift, k.heating.trans h.heating, fun x => k.state (h.state x)⟩

theorem State.ageFaults_moves (s : State) : State.Moves W s s.ageFaults :=
  .single (.coils _ fun i => by simpa using (tickFault_serviced _).trans (cleanWindow_serviced _))

theorem State.faultEnd_moves (i : CoilIx) (s : State) : State.Moves W s (s.faultEnd i) := by
  unfold State.faultEnd
  split
  · refine .single (.coils _ fun j => ?_)
    rw [Eight.get_update]
    split
    · exact tickFault_serviced _
    · exact .refl _
  · exact .refl

/-! ### Window starts (R89) -/

theorem State.ageRoster_moves (s : State) : State.Moves W s s.ageRoster := by
  refine .single (.roster _ fun q st h => .inl ?_)
  rw [Eight.get_map] at h
  unfold ageEntry at h
  split at h <;> exact h

theorem State.removePeers_moves (out : PeerEntry → Bool) (s : State) : State.Moves W s (s.removePeers out) :=
  .head (.peers _ (List.filter_sublist.map _) fun h e he => h e (List.mem_of_mem_filter he))
    (State.foldl_moves (fun s' _ => s'.confirmIfGone_moves _) _ _)

theorem State.agePeers_moves (s : State) : State.Moves W s s.agePeers := by
  rw [s.agePeers_eq]
  have served : s.link.Served s.agedHanded := .foldl (fun l t => s.causesHanded_served t l) _ _
  refine .head (.lifted (s.tracker.lifted.map fun e => if e.tag ∈ s.closedByAge then { e with confirmed := true } else e) ?_)
    (.head (.link (s := { s with tracker := { s.tracker with lifted := s.tracker.lifted.map fun e =>
      if e.tag ∈ s.closedByAge then { e with confirmed := true } else e } }) _ served) (.single (.peers _ ?_ ?_)))
  · rw [List.map_map, List.map_congr_left (g := fun e => (e.tag, e.program))]
    intro e _
    simp only [Function.comp_apply]
    split_ifs <;> rfl
  · rw [List.map_map]
    exact served.peers ▸ List.filter_sublist.map _
  · intro _ e he
    simp only [List.mem_map, List.mem_filter, decide_eq_true_eq] at he
    obtain ⟨x, ⟨-, young⟩, rfl⟩ := he
    exact young

theorem State.countBlocked_moves (s : State) : State.Moves W s s.countBlocked := by
  unfold State.countBlocked
  split_ifs
  · exact Link.Served.moves ⟨rfl, rfl, by simp, id⟩
  · exact .refl
  · exact Link.Served.moves ⟨rfl, rfl, id, id⟩
  · exact .refl
  · exact .single (.setLinkBlocked s)

theorem State.checkBlocked_moves (s : State) : State.Moves W s s.checkBlocked :=
  s.countBlocked_moves.trans (Link.Served.moves ⟨rfl, rfl, id, id⟩)

theorem State.linkBlockedSet_moves (s : State) : State.Moves W s s.linkBlockedSet := by
  unfold State.linkBlockedSet
  split
  · exact .single (.setLinkBlocked s)
  · exact .refl

@[simp] theorem State.agePeers_timebase (s : State) : s.agePeers.timebase = s.timebase := by rw [s.agePeers_eq]

@[simp] theorem State.checkBlocked_timebase (s : State) : s.checkBlocked.timebase = s.timebase := by
  have counted : s.countBlocked.timebase = s.timebase := by
    unfold State.countBlocked
    split_ifs <;> rfl
  exact counted

@[simp] theorem State.reportFrozen_timebase (s : State) : s.reportFrozen.timebase = s.timebase := by
  unfold State.reportFrozen
  split
  · rw [State.foldl_link_frame _ fun s' f => s'.handReport_frame _]
  · rfl

/-- The window start up to the sweep leaves the timebase but the raised event. -/
theorem State.openWindow_moves {s : State} (slot : W → s.timebase.halfCycle = 0) : State.Moves W s s.openWindow := by
  have cleared : State.Moves W s { s with timebase := { s.timebase with windowStartRaised := false } } :=
    .single (.timebase _ rfl rfl (by simp) rfl id)
  have aged (t : State) : State.Moves W t t.formPower.ageFaults.ageRoster.agePeers.checkBlocked :=
    .afterSense ((State.ageFaults_moves _).trans ((State.ageRoster_moves _).trans
      ((State.agePeers_moves _).trans (State.checkBlocked_moves _)))) rfl
  have converted (t : State) : State.Moves W t t.startConversion.reportFrozen := .afterSense (State.reportFrozen_moves _) rfl
  refine cleared.trans ((aged _).trans ((converted _).trans (State.startSweep_moves fun w => ?_)))
  rw [State.reportFrozen_timebase]
  change (State.checkBlocked _).timebase.halfCycle = 0
  rw [State.checkBlocked_timebase, State.agePeers_timebase]
  exact slot w

/-! ### The allocation point (R65, R93) -/

theorem State.zeroFigures_moves (s : State) : State.Moves W s s.zeroFigures := .single (.figures _ (fun _ => 0) s)

theorem State.allocate_moves (s : State) : State.Moves W s s.allocate := by
  unfold State.allocate
  split
  · exact .single (.figures _ (fragmentShare s.cache s.link.peers) s)
  · exact s.zeroFigures_moves

/-- R67, R70, R77: only an assigned coil has a raw demand, and so a grant. -/
theorem State.rawDemand_targeted {s : State} {i : CoilIx} (h : s.targeted i = false) :
    rawDemand s.coils s.cache s.tracker.pans i = 0 := by
  refine rawDemand_eq_zero fun f hf hi => ?_
  simp only [State.targeted, List.any_eq_false, Bool.and_eq_true, decide_eq_true_eq, not_and, List.contains_iff_mem] at h
  have := h f hf hi
  omega

theorem State.allocate_granted (s : State) (i : CoilIx) (h : 0 < s.allocate.alloc.grant.get i) :
    s.allocate.alloc.assigned.get i = true := by
  unfold State.allocate at h ⊢
  split at h
  case isTrue joined =>
    rw [if_pos joined]
    dsimp only at h ⊢
    generalize s.computeShares = u at h ⊢
    by_contra unassigned
    have free : u.targeted i = false := by simpa [State.figures] using unassigned
    simp [State.figures, State.rawDemand_targeted free] at h
  case isFalse => simp [State.zeroFigures, Allocator.zero] at h

theorem State.computeMaxima_moves (s : State) : State.Moves W s s.computeMaxima := by
  unfold State.computeMaxima
  split
  · exact .single (.coils _ fun i => by rw [Eight.get_mapIx]; exact ⟨rfl, rfl, rfl, rfl, id⟩)
  · exact .refl

/-- R93, R137: the status a hand-over queues changes the link alone. -/
theorem State.handStatus_served (s : State) :
    s.handStatus = { s with link := s.handStatus.link } ∧ s.link.Served s.handStatus.link := by
  have queued : s.queueStatus = { s with link := s.queueStatus.link } ∧ s.link.Served s.queueStatus.link :=
    ⟨State.hand_frame _ _ _ s, State.hand_served _ _ _ s⟩
  unfold State.handStatus
  split
  · split
    · dsimp only
      split
      · refine ⟨?_, queued.2.trans ⟨rfl, rfl, id, id⟩⟩
        rw [queued.1]
      · exact ⟨rfl, rfl, rfl, id, id⟩
    · exact queued
  · exact ⟨rfl, .refl _⟩

@[simp] theorem State.decideLock_link (s : State) : s.decideLock.link = s.link := by
  unfold State.decideLock
  split <;> rfl

@[simp] theorem State.setFrequency_link (s : State) : s.setFrequency.link = s.link := by
  unfold State.setFrequency
  dsimp only
  split <;> rfl

theorem State.handOver_moves {s : State} (granted : ∀ i, 0 < s.alloc.grant.get i → s.alloc.assigned.get i = true) :
    State.Moves W s s.handOver.startDrive := by
  have status := State.handStatus_served s.decideLock.setFrequency.setDensities
  have link : s.decideLock.setFrequency.setDensities.link = s.link := by simp [State.setDensities]
  unfold State.handOver
  rw [status.1]
  exact .single (.handOver _ (link ▸ status.2) granted)

theorem State.abortAtSlot1_moves (s : State) : State.Moves W s s.abortAtSlot1 := by
  unfold State.abortAtSlot1
  split
  · exact .refl
  · split
    · exact .head (.abortSweep s) (State.trackingUpdate_moves _)
    · exact .single (.abortSweep s)

/-- R6: no sweep is in flight after the abort at slot 1. -/
theorem State.abortAtSlot1_sweep (s : State) : s.abortAtSlot1.probe.sweep = none := by
  unfold State.abortAtSlot1
  split
  case h_1 idle => exact idle
  case h_2 =>
    split
    · rw [State.trackingUpdate_frame]
      rfl
    · rfl

theorem State.allocationPoint_moves (s : State) : State.Moves W s s.allocationPoint := by
  unfold State.allocationPoint
  exact s.abortAtSlot1_moves.trans (.head (.takeAllocation s.abortAtSlot1_sweep) ((State.computeMaxima_moves _).trans
    ((State.allocate_moves _).trans (State.handOver_moves (State.allocate_granted _)))))

@[simp] theorem State.allocate_timebase (s : State) : s.allocate.timebase = s.timebase := by
  unfold State.allocate
  split <;> rfl

@[simp] theorem State.computeMaxima_timebase (s : State) : s.computeMaxima.timebase = s.timebase := by
  unfold State.computeMaxima
  split <;> rfl

@[simp] theorem State.decideLock_timebase (s : State) : s.decideLock.timebase = s.timebase := by
  unfold State.decideLock
  split <;> rfl

@[simp] theorem State.setFrequency_timebase (s : State) : s.setFrequency.timebase = s.timebase := by
  unfold State.setFrequency
  dsimp only
  split <;> rfl

@[simp] theorem State.handOver_timebase (s : State) : s.handOver.timebase = s.timebase := by
  unfold State.handOver
  rw [(State.handStatus_served _).1]
  simp [State.setDensities]

/-- R65: the allocation point, once taken, is no longer raised. -/
theorem State.allocationPoint_taken (s : State) : s.allocationPoint.timebase.allocationRaised = false := by
  simp [State.allocationPoint]

/-! ### The second tick (R90) -/

theorem State.panelsAbsent_moves (s : State) : State.Moves W s s.panelsAbsent := by
  have touched : State.Moves W s { s with sup := { s.sup with absence := 10, lastPanel := .standby } } :=
    .single (.sup _ ⟨rfl, rfl, rfl, rfl⟩ fun h => .inl (by
      simp only [State.stopAsserted, State.ownStop, Bool.or_eq_true] at h ⊢
      tauto))
  unfold State.panelsAbsent
  dsimp only
  split
  case isTrue run => exact touched.trans (State.enterQuietOrStopped_moves (.inr (.inr (.inl run))))
  case isFalse => exact touched

theorem State.tickAbsence_moves (s : State) : State.Moves W s s.tickAbsence := by
  unfold State.tickAbsence
  split_ifs
  · exact .single (.sup _ ⟨rfl, rfl, rfl, rfl⟩ fun h => .inl (by
      simp only [State.stopAsserted, State.ownStop, Bool.or_eq_true] at h ⊢
      tauto))
  · exact s.panelsAbsent_moves
  · exact .refl

theorem State.panelAbsence_moves (s : State) : State.Moves W s s.panelAbsence := by
  unfold State.panelAbsence
  split
  · exact s.panelsAbsent_moves
  · exact .refl

theorem State.tickPans_moves (s : State) : State.Moves W s s.tickPans := by
  unfold State.tickPans
  split
  · exact .head (.expire _ s) (.head (.ageCache _) ((State.tickPrograms_moves _).trans ((State.tickGrace_moves _).trans
      (State.withdrawUntargeted_moves _))))
  · exact .refl

theorem State.takeSecondTick_moves (s : State) : State.Moves W s s.takeSecondTick :=
  .head (.timebase { s.timebase with secondTickRaised := false } rfl rfl id rfl id)
    ((State.tickPans_moves _).trans (State.tickAbsence_moves _))

/-! ### The Timebase (R84 to R90, R163, R177) -/

theorem State.loadingExit_moves (s : State) : State.Moves W s s.loadingExit := by
  unfold State.loadingExit
  split
  case isTrue done =>
    refine .head (.sup { s.sup with lastPanel := .standby, absence := 0 } ⟨rfl, rfl, rfl, rfl⟩ fun h => .inl ?_)
      (State.enterQuietOrStopped_moves (.inl done))
    simp only [State.stopAsserted, State.ownStop, Bool.or_eq_true] at h ⊢
    tauto
  case isFalse => exact .refl

@[simp] theorem State.loadingExit_timebase (s : State) : s.loadingExit.timebase = s.timebase := by
  unfold State.loadingExit State.exitLoading State.enterQuietOrStopped
  split_ifs <;> rfl

theorem State.takeRaised_moves (s : State) : State.Moves s.WindowInSlot s s.takeRaised := by
  have hwindow : State.Moves s.WindowInSlot s.loadingExit
      (if s.loadingExit.timebase.windowStartRaised then s.loadingExit.openWindow else s.loadingExit) := by
    split
    case isTrue raised => exact State.openWindow_moves fun w => by simpa using w (by simpa using raised)
    case isFalse => exact .refl
  have hsecond (t : State) : State.Moves s.WindowInSlot t (if t.timebase.secondTickRaised then t.takeSecondTick else t) := by
    split
    · exact t.takeSecondTick_moves
    · exact .refl
  have hpoint (t : State) : State.Moves s.WindowInSlot t (if t.timebase.allocationRaised then t.allocationPoint else t) := by
    split
    · exact t.allocationPoint_moves
    · exact .refl
  exact s.loadingExit_moves.trans (hwindow.trans ((hsecond _).trans (hpoint _)))

theorem State.takeRaised_taken (s : State) : s.takeRaised.timebase.allocationRaised = false := by
  have taken (t : State) :
      (if t.timebase.allocationRaised then t.allocationPoint else t).timebase.allocationRaised = false := by
    split
    case isTrue => exact t.allocationPoint_taken
    case isFalse unraised => simpa using unraised
  exact taken _

/-- R103: a bus report starts no drive. -/
theorem State.reportBus_idle {s : State} (idle : ∀ i, s.drive.driven.get i = false) (i : CoilIx) :
    s.reportBus.drive.driven.get i = false := by
  have stopped (t : State) (i) : t.enterStopped.drive.driven.get i = false := by
    simp [t.enterStopped_from.cut.driveOff.driven]
  have quiet (t : State) (i) : t.enterQuiet.drive.driven.get i = false := by simp [t.enterQuiet_from.off.driven]
  have sensed (t : State) (h : ∀ i, t.drive.driven.get i = false) : t.senseStop.drive.driven.get i = false := by
    unfold State.senseStop State.leaveStopped
    split
    · split
      · exact stopped t i
      · exact stopped t i
      · exact h i
      · exact h i
    · split
      · split
        · exact h i
        · exact quiet t i
      · exact h i
  unfold State.reportBus State.takeBusReport
  dsimp only
  split_ifs
  · exact idle i
  · exact idle i
  · exact sensed _ idle
  · exact idle i
  · exact idle i

theorem State.boundary_moves {s : State} (taken : s.timebase.allocationRaised = false) : State.Moves W s s.boundary := by
  have closed : ∀ i, s.closeHalfCycle.drive.driven.get i = false := by simp [State.closeHalfCycle]
  have reported : s.closeHalfCycle.reportBus.timebase.allocationRaised = false := by
    rw [State.raised_eq_of_slotPlan (State.reportBus_slotPlan _)]
    exact taken
  exact .head (.closeHalfCycle s) ((State.reportBus_moves _).tail (.advance reported (State.reportBus_idle closed)))

theorem State.setMainsLost_moves (s : State) : State.Moves W s s.setMainsLost := .single (.setMainsLost s)

theorem State.measure_moves (time : Nat) {s : State} (unknown : s.timebase.mainsClass = .unknown) :
    State.Moves W s (s.measure time) := by
  have counted (n first last : Nat) : State.Moves W s
      { s with timebase := { s.timebase with measCount := n, measFirst := first, measPrev := last } } :=
    .single (.timebase _ rfl rfl id rfl id)
  unfold State.measure
  dsimp only
  split_ifs
  · exact counted _ _ _
  · exact .refl
  · exact counted _ s.timebase.measFirst _
  · exact counted _ _ _
  · exact .head (.setClass _ unknown rfl rfl) (State.reportBus_moves _)

theorem State.zeroCrossing_moves (time : Nat) (s : State) : State.Moves s.WindowInSlot s (s.zeroCrossing time) := by
  unfold State.zeroCrossing
  split
  case isTrue unknown => exact State.measure_moves time unknown
  case isFalse =>
    unfold State.crossing
    split
    case h_1 r p _ _ =>
      split
      case isTrue =>
        refine s.takeRaised_moves.trans (.head (.timebase (acceptCrossing r time s.takeRaised.timebase) rfl rfl id rfl ?_)
          (State.boundary_moves s.takeRaised_taken))
        simp only [acceptCrossing, Bool.and_eq_true]
        exact And.left
      case isFalse => exact .refl
    case h_2 => exact .refl

theorem State.synthetic_moves (s : State) : State.Moves s.WindowInSlot s s.synthetic := by
  unfold State.synthetic
  split
  case h_1 r p _ _ =>
    split
    case isTrue => exact .refl
    case isFalse =>
      have bounded := s.takeRaised_moves.trans (.head
        (.timebase (flywheel r p s.takeRaised.timebase) rfl rfl id rfl id) (State.boundary_moves s.takeRaised_taken))
      dsimp only
      split
      · exact bounded.trans (State.setMainsLost_moves _)
      · exact bounded
  case h_2 => exact .refl

theorem State.mainsLostSet_moves (s : State) : State.Moves W s s.mainsLostSet := by
  unfold State.mainsLostSet
  split
  · exact s.setMainsLost_moves
  · exact .refl

theorem State.mainsLostClear_moves (s : State) : State.Moves W s s.mainsLostClear := by
  unfold State.mainsLostClear
  split
  · exact .single (.timebase _ rfl rfl id rfl (by simp))
  · exact .refl

/-! ### Panels and the stop line (R164 to R169) -/

theorem State.takePanel_moves (p : PanelState) (s : State) : State.Moves W s (s.takePanel p) := by
  have acted (t : State) : State.Moves W t (t.actOnPanel p) := by
    unfold State.actOnPanel
    split
    case h_1 quiet =>
      unfold State.enterRunOrStopped
      split
      · exact .single (.enterStopped (.inr (.inl quiet)))
      · exact .single (.enterRun t.sup.stopCause (.inl quiet))
    case h_2 run => exact State.enterQuietOrStopped_moves (.inr (.inr (.inl run)))
    case h_3 => exact .refl
  refine .head (.sup { s.sup with lastPanel := p, absence := 0 } ⟨rfl, rfl, rfl, rfl⟩ fun h => .inl ?_) (acted _)
  simp only [State.stopAsserted, State.ownStop, Bool.or_eq_true] at h ⊢
  tauto

theorem State.stopLineAssertion_moves (s : State) : State.Moves W s s.stopLineAssertion :=
  .head (.assertLine { s.sup with stopExternal := true } ⟨rfl, rfl, rfl, rfl⟩) (State.senseStop_moves _)

theorem State.stopLineRelease_moves (s : State) : State.Moves W s s.stopLineRelease :=
  .head (.sup { s.sup with stopExternal := false } ⟨rfl, rfl, rfl, rfl⟩ fun h => .inl (by
    simp_all [State.stopAsserted, State.ownStop])) (State.senseStop_moves _)

theorem State.overvoltageDriveRelease_moves (s : State) : State.Moves W s s.overvoltageDriveRelease := by
  unfold State.overvoltageDriveRelease
  split
  · exact s.endOvervoltageDrive_moves
  · exact .refl

end Moves

end Sys2Proof.Machine

/-! PROOFS. The line and the start-up as sequences of moves, and every command with them. -/

namespace Sys2Proof.Machine

open Sys2Proof

section Moves

variable {W : Prop}

/-! ### The line (R131 to R137) -/

theorem markContending_keys (key : Key) (q : List QueueEntry) :
    (markContending key q).map (fun e => e.key) = q.map fun e => e.key := by
  simp only [markContending, List.map_map]
  refine List.map_congr_left fun e _ => ?_
  simp only [Function.comp_apply]
  split_ifs <;> rfl

/-- R133: marking one entry of a queue in which none contends. -/
theorem QueueSound.markContending {q : List QueueEntry} (h : QueueSound q) (key : Key) (none : contendingEntry q = none) :
    QueueSound (markContending key q) where
  size := by simpa [Machine.markContending] using h.size
  keys := by rw [markContending_keys]; exact h.keys
  contends := by
    have idle : ∀ e ∈ q, e.contending = false := by simpa [contendingEntry] using none
    have only : (Machine.markContending key q).filter (fun e => e.contending) =
        (q.filter fun e => decide (e.key = key)).map fun e => { e with contending := true } := by
      clear h none
      induction q with
      | nil => rfl
      | cons e q ih =>
        obtain ⟨waits, idle⟩ := List.forall_mem_cons.1 idle
        simp only [Machine.markContending, List.map_cons] at ih ⊢
        by_cases hk : e.key = key <;> simp [hk, waits, ih idle]
    rw [only, List.length_map]
    have one := List.nodup_iff_count_le_one.1 h.keys key
    rw [List.count_eq_countP, List.countP_map, List.countP_eq_length_filter] at one
    refine le_trans (le_of_eq ?_) one
    congr 1

theorem Link.startFrame_served {l : Link} (quiet : l.quiet = true) : l.Served l.startFrame := by
  unfold Link.startFrame
  split
  · exact ⟨rfl, rfl, id, id⟩
  · refine ⟨rfl, rfl, id, fun h => h.markContending _ ?_⟩
    simp only [Link.quiet, Bool.and_eq_true, Option.isNone_iff_eq_none] at quiet
    exact quiet.1

theorem State.lineIdle_moves (s : State) : State.Moves W s s.lineIdle := by
  unfold State.lineIdle
  dsimp only
  split_ifs with silent quiet
  · exact Link.Served.moves ⟨rfl, rfl, id, id⟩
  · have served := Link.startFrame_served (l := { s.link with awaitsIdle := false }) quiet
    exact Link.Served.moves ⟨served.roster, served.peers, served.blocked, served.queue⟩
  · exact Link.Served.moves ⟨rfl, rfl, id, id⟩

theorem State.contentionLost_moves (s : State) : State.Moves W s s.contentionLost := by
  unfold State.contentionLost
  split
  · exact .refl
  · refine Link.Served.moves ⟨rfl, rfl, id, fun h => h.map (fun e => ?_) fun e => ?_⟩ <;> split_ifs <;> simp_all

/-- R142: the winner's replacement takes the place of the winner. -/
theorem QueueSound.won {q : List QueueEntry} (h : QueueSound q) {e : QueueEntry} (won : contendingEntry q = some e) :
    QueueSound ((q.filter fun x => !x.contending) ++ replacementEntry e) := by
  have mem : e ∈ q := List.mem_of_find?_eq_some won
  have contends : e.contending = true := List.find?_some won
  have waiting := h.sublist (List.filter_sublist (p := fun x : QueueEntry => !x.contending))
  have fewer : (q.filter fun x => !x.contending).length < q.length :=
    List.length_filter_lt_length_iff_exists.2 ⟨e, mem, by simp [contends]⟩
  unfold replacementEntry
  split
  · simpa using waiting
  · refine waiting.append (fewer.trans_le h.size) ?_ rfl
    simp only [holdsKey, List.any_eq_false, decide_eq_true_eq, List.mem_filter, Bool.not_eq_true', and_imp]
    intro x hx waits same
    have := List.inj_on_of_nodup_map h.keys hx mem same
    simp [this, contends] at waits

theorem State.contentionWon_moves (s : State) : State.Moves W s s.contentionWon := by
  unfold State.contentionWon
  split
  · exact .refl
  · rename_i e won
    exact Link.Served.moves ⟨rfl, rfl, by simp, fun h => h.won won⟩

theorem State.collision_moves (s : State) : State.Moves W s s.collision := by
  unfold State.collision
  split
  · exact .refl
  · exact .trans (.single (.link { s.link with sending := none } ⟨rfl, rfl, id, id⟩)) (State.reportClash_moves _)

theorem Link.endFrame_served (acknowledged rejected : Bool) (l : Link) : l.Served (l.endFrame acknowledged rejected) := by
  unfold Link.endFrame Link.readReject Link.readAcknowledge Link.setAlone
  dsimp only
  split_ifs <;> exact ⟨rfl, rfl, id, id⟩

theorem State.ownFrameEnd_moves (acknowledged rejected : Bool) (s : State) :
    State.Moves W s (s.ownFrameEnd acknowledged rejected) := by
  unfold State.ownFrameEnd
  split
  · exact .refl
  · exact Link.Served.moves (Link.endFrame_served _ _ _)

theorem State.aloneSet_moves (s : State) : State.Moves W s s.aloneSet := by
  unfold State.aloneSet
  split
  · exact Link.Served.moves ⟨rfl, rfl, id, id⟩
  · exact .refl

/-! ### Frames received (R138 to R147) -/

theorem State.storeReport_moves {q : Position} {r : Report} {payload : List Byte} {s : State} (awake : s.sup.held = false)
    (foreign : q ≠ s.sup.position) (decoded : decodeFragment payload = some (.report r)) :
    State.Moves W s (s.storeReport q r) := by
  have tested (e : Option PeerEntry) (t : State) : State.Moves W t (t.testEvicted e) := by
    unfold State.testEvicted
    split
    · exact .refl
    · exact t.confirmIfGone_moves _
  exact .head (.storePeer q r awake foreign ⟨payload, decoded⟩)
    ((tested _ _).trans ((State.departIfLifted_moves _ _).trans (State.followHome_moves decoded _)))

theorem State.closePeer_moves (q : Position) (t : Tag) (s : State) : State.Moves W s (s.closePeer q t) := by
  unfold State.closePeer
  split
  · exact .trans (.single (.peers (s.link.peers.filter fun e => !e.isOf q t) (List.filter_sublist.map _)
      fun h e he => h e (List.mem_of_mem_filter he))) (State.confirmIfGone_moves _ _)
  · exact .refl

theorem State.storeStatus_moves {payload : List Byte} {st : Status} (decoded : decodeStatus payload = some st) (q : Position)
    (s : State) : State.Moves W s (s.storeStatus q st) := by
  refine .single (.roster _ fun p x h => ?_)
  rw [Eight.get_set] at h
  split at h
  · exact .inr ⟨payload, by simpa [decoded] using h⟩
  · exact .inl h

theorem State.handleFrame_moves {s : State} (kind : FrameKind) {source : LinkPos} (payload : List Byte)
    (awake : s.sup.held = false) (foreign : modulePosition source ≠ some s.sup.position) :
    State.Moves W s (s.handleFrame kind source payload) := by
  unfold State.handleFrame
  split
  case h_1 =>
    unfold State.receivePanelState
    split
    · exact s.countMalformed_moves
    · exact s.takePanel_moves _
  case h_2 =>
    unfold State.receiveSetting
    split
    · exact s.countMalformed_moves
    · rename_i st decoded
      exact State.takeSetting_moves decoded s
  case h_3 q hq =>
    unfold State.receiveFragment
    split
    · exact s.countMalformed_moves
    · exact s.closePeer_moves _ _
    · rename_i r decoded
      exact State.storeReport_moves awake (fun h => foreign (h ▸ hq)) decoded
  case h_4 =>
    unfold State.receiveStatus
    split
    · exact s.countMalformed_moves
    · rename_i st decoded
      exact State.storeStatus_moves decoded _ s
  case h_5 => exact .refl

theorem State.takeFrame_moves {s : State} (kind : FrameKind) (source : LinkPos) (payload : List Byte)
    (awake : s.sup.held = false) : State.Moves W s (s.takeFrame kind source payload) := by
  unfold State.takeFrame
  split
  case isTrue => exact s.markSlots_moves _ _
  case isFalse =>
    split
    case isTrue => exact (s.markSlots_moves _ _).trans (State.reportClash_moves _)
    case isFalse foreign => exact (s.markSlots_moves _ _).trans (State.handleFrame_moves kind payload awake foreign)

theorem State.receiveLine_moves {s : State} (bits : List Bool) (awake : s.sup.held = false) :
    State.Moves W s (s.receiveLine bits) := by
  unfold State.receiveLine
  split
  case isTrue => exact s.markSlots_moves _ _
  case isFalse =>
    split
    case h_1 => exact Link.Served.moves ⟨rfl, rfl, id, id⟩
    case h_2 => exact s.markSlots_moves _ _
    case h_3 => exact State.takeFrame_moves _ _ _ awake

theorem State.positionClash_moves (s : State) : State.Moves W s s.positionClash := by
  unfold State.positionClash
  split
  · exact s.markSlots_moves _ _
  · exact (s.markSlots_moves _ _).trans (State.reportClash_moves _)

/-! ### Every command -/

/-- R172: a command of a device that may be held. -/
theorem moves_of_live {f : State → State} {s t : State} (moves : s.sup.held = false → State.Moves W s (f s))
    (h : live s f = .next t) : State.Moves W s t := by
  cases h
  split
  case isTrue => exact .refl
  case isFalse awake => exact moves (by simpa using awake)

/-- Every command is a sequence of moves. -/
theorem exec_moves {c : Instr} {s t : State} (h : exec c s = .next t) : State.Moves s.WindowInSlot s t := by
  cases c with
  | reset cause => cases h; exact .single (.reset cause s)
  | endOfReset straps =>
    cases h
    split
    case isTrue held => exact .single (.endReset straps held)
    case isFalse => exact .refl
  | stopLineAssertion =>
    cases h
    split
    case isTrue held => exact .single (.sup _ ⟨rfl, rfl, rfl, rfl⟩ fun _ => .inr held)
    case isFalse => exact s.stopLineAssertion_moves
  | stopLineRelease =>
    cases h
    split
    case isTrue held => exact .single (.sup _ ⟨rfl, rfl, rfl, rfl⟩ fun _ => .inr held)
    case isFalse => exact s.stopLineRelease_moves
  | windowStart =>
    refine moves_of_live (fun _ => ?_) h
    split
    case isTrue raised => exact State.openWindow_moves fun w => w raised
    case isFalse => exact .refl
  | allocationPoint =>
    refine moves_of_live (fun _ => ?_) h
    split
    · exact s.allocationPoint_moves
    · exact .refl
  | secondTick =>
    refine moves_of_live (fun _ => ?_) h
    split
    · exact s.takeSecondTick_moves
    · exact .refl
  | setupReadEnd image => exact moves_of_live (fun awake => .single (.setupReadEnd image awake)) h
  | driveCounterMatch count => exact moves_of_live (fun _ => .single (.driveMatch count s)) h
  | loadingExit => exact moves_of_live (fun _ => s.loadingExit_moves) h
  | zeroCrossing time => exact moves_of_live (fun _ => s.zeroCrossing_moves time) h
  | syntheticBoundary => exact moves_of_live (fun _ => s.synthetic_moves) h
  | mainsLostSet => exact moves_of_live (fun _ => s.mainsLostSet_moves) h
  | mainsLostClear => exact moves_of_live (fun _ => s.mainsLostClear_moves) h
  | faultEnd coil => exact moves_of_live (fun _ => s.faultEnd_moves coil) h
  | peerFragmentAgeOut source tag => exact moves_of_live (fun _ => s.removePeers_moves _) h
  | linkBlockedSet => exact moves_of_live (fun _ => s.linkBlockedSet_moves) h
  | temperatureReadings codes sink => exact moves_of_live (fun _ => s.temperatureReadings_moves codes sink) h
  | probePulseEnd time => exact moves_of_live (fun _ => s.pulseEnd_moves time) h
  | ringMark detector time => exact moves_of_live (fun _ => s.ringMark_moves detector time) h
  | ringDecayed detector => exact moves_of_live (fun _ => s.endProbe_moves detector) h
  | timeLimit detector => exact moves_of_live (fun _ => s.endProbe_moves detector) h
  | cacheExpiry tag => exact moves_of_live (fun _ => s.cacheExpiry_moves tag) h
  | stepEnd tag => exact moves_of_live (fun _ => s.stepEnd_moves tag) h
  | graceExpiry tag => exact moves_of_live (fun _ => s.graceExpiry_moves tag) h
  | panelAbsence => exact moves_of_live (fun _ => s.panelAbsence_moves) h
  | currentSample coil count sample => exact moves_of_live (fun _ => s.currentSample_moves coil count sample) h
  | busConversion value => exact moves_of_live (fun _ => s.busConversion_moves value) h
  | overvoltageDriveRelease => exact moves_of_live (fun _ => s.overvoltageDriveRelease_moves) h
  | lineIdle => exact moves_of_live (fun _ => s.lineIdle_moves) h
  | contentionLost => exact moves_of_live (fun _ => s.contentionLost_moves) h
  | contentionWon => exact moves_of_live (fun _ => s.contentionWon_moves) h
  | collision => exact moves_of_live (fun _ => s.collision_moves) h
  | ownFrameEnd ack reject => exact moves_of_live (fun _ => s.ownFrameEnd_moves ack reject) h
  | aloneSet => exact moves_of_live (fun _ => s.aloneSet_moves) h
  | frameReject bits => exact moves_of_live (State.receiveLine_moves bits) h
  | panelState source payload => exact moves_of_live (State.takeFrame_moves _ source payload) h
  | panSetting source payload => exact moves_of_live (State.takeFrame_moves _ source payload) h
  | fragment source payload => exact moves_of_live (State.takeFrame_moves _ source payload) h
  | moduleStatus source payload => exact moves_of_live (State.takeFrame_moves _ source payload) h
  | panNotice source payload => exact moves_of_live (State.takeFrame_moves _ source payload) h
  | positionClash => exact moves_of_live (fun _ => s.positionClash_moves) h
  | ignoredKindFrame kind source => exact moves_of_live (State.takeFrame_moves _ source []) h

end Moves

/-- What every move keeps, every command keeps. -/
theorem exec_keeps {P : State → Prop} {s t : State} (h : ∀ u v, State.Move s.WindowInSlot u v → P u → P v) {c : Instr}
    (step : exec c s = .next t) (hs : P s) : P t := (exec_moves step).keeps h hs

end Sys2Proof.Machine

/-! PROOFS. The tables a tracking update leaves (R25 to R40): how many fragments and entries, and which tags. -/

namespace Sys2Proof.Machine

open Sys2Proof

/-! ### Components (R26) -/

theorem mem_allCoils (i : CoilIx) : i ∈ allCoils := by fin_cases i <;> decide

theorem mem_growSet {covered : CoilIx → Bool} {set : List CoilIx} {j : CoilIx} :
    j ∈ growSet covered set ↔ covered j = true ∧ (j ∈ set ∨ ∃ i ∈ set, adjacentCoils i j = true) := by
  simp [growSet, mem_allCoils]

theorem pairwise_allCoils : allCoils.Pairwise fun i j => i < j := by decide

theorem growSet_pairwise (covered : CoilIx → Bool) (set : List CoilIx) : (growSet covered set).Pairwise fun i j => i < j :=
  pairwise_allCoils.filter _

theorem growRounds_pairwise (covered : CoilIx → Bool) (n : Nat) {set : List CoilIx} (h : set.Pairwise fun i j => i < j) :
    (growRounds covered n set).Pairwise fun i j => i < j := by
  induction n generalizing set with
  | zero => exact h
  | succ n ih => exact ih (growSet_pairwise covered set)

/-- Growing keeps what is covered. -/
theorem growRounds_mono {covered : CoilIx → Bool} (n : Nat) {set : List CoilIx} {j : CoilIx} (hj : covered j = true)
    (h : j ∈ set) : j ∈ growRounds covered n set := by
  induction n generalizing set with
  | zero => exact h
  | succ n ih => exact ih (mem_growSet.2 ⟨hj, .inl h⟩)

theorem mem_componentOf_self {covered : CoilIx → Bool} {i : CoilIx} (hi : covered i = true) : i ∈ componentOf covered i :=
  growRounds_mono 7 hi (by simp)

theorem mem_componentOf_adjacent {covered : CoilIx → Bool} {i j : CoilIx} (hj : covered j = true)
    (h : adjacentCoils i j = true) : j ∈ componentOf covered i :=
  growRounds_mono 6 hj (mem_growSet.2 ⟨hj, .inr ⟨i, by simp, h⟩⟩)

theorem componentOf_pairwise (covered : CoilIx → Bool) (i : CoilIx) :
    (componentOf covered i).Pairwise fun i j => i < j := growRounds_pairwise covered 7 (by simp)

/-- The lowest coil of a component is its first. -/
theorem componentOf_head_le {covered : CoilIx → Bool} {i j : CoilIx} (h : j ∈ componentOf covered i)
    {k : CoilIx} (head : (componentOf covered i).head? = some k) : k ≤ j := by
  have rising := componentOf_pairwise covered i
  cases hc : componentOf covered i with
  | nil => simp [hc] at h
  | cons a as =>
    rw [hc] at h head rising
    obtain rfl : a = k := by simpa using head
    rcases List.mem_cons.1 h with rfl | hj
    · exact le_rfl
    · exact ((List.pairwise_cons.1 rising).1 j hj).le

/-- A coil and the next one of its column do not both begin a component. -/
theorem not_two_heads {covered : CoilIx → Bool} {i j : CoilIx} (adjacent : adjacentCoils j i = true) (lower : i < j)
    (hi : covered i = true) (head : (componentOf covered j).head? = some j) : False :=
  absurd (componentOf_head_le (mem_componentOf_adjacent hi adjacent) head) (not_le.2 lower)

/-- R26: eight coils, in four pairs of neighbours, have at most four components. -/
theorem coilComponents_length (covered : CoilIx → Bool) : (coilComponents covered).length ≤ 4 := by
  have one (i j : CoilIx) (adjacent : adjacentCoils j i = true) (lower : i < j) :
      ([i, j].filter fun k => covered k && decide ((componentOf covered k).head? = some k)).length ≤ 1 := by
    have := not_two_heads (covered := covered) adjacent lower
    by_cases hi : covered i = true <;> by_cases hj : (componentOf covered j).head? = some j <;> simp_all [List.filter_cons] <;>
      split_ifs <;> simp
  have h0 := one 0 1 (by decide) (by decide)
  have h1 := one 2 3 (by decide) (by decide)
  have h2 := one 4 5 (by decide) (by decide)
  have h3 := one 6 7 (by decide) (by decide)
  have split : allCoils = [0, 1] ++ [2, 3] ++ [4, 5] ++ [6, 7] := rfl
  rw [coilComponents, List.length_map, split]
  simp only [List.filter_append, List.length_append]
  omega

/-! ### Tagging (R27 to R31) -/

@[simp] theorem resumeOne_length (t : Tagging) (c : Component) : (resumeOne t c).comps.length = t.comps.length + 1 := by
  unfold resumeOne
  split
  · simp
  · split <;> simp

theorem resumeOne_lifted (t : Tagging) (c : Component) : (resumeOne t c).lifted.Sublist t.lifted := by
  unfold resumeOne
  split
  · exact .refl _
  · split
    · exact .refl _
    · exact List.filter_sublist

theorem foldl_resumeOne_length (cs : List Component) (t : Tagging) :
    (cs.foldl resumeOne t).comps.length = t.comps.length + cs.length := by
  induction cs generalizing t with
  | nil => rfl
  | cons c cs ih => simp [ih, Nat.add_assoc, Nat.add_comm 1]

theorem foldl_resumeOne_lifted (cs : List Component) (t : Tagging) : (cs.foldl resumeOne t).lifted.Sublist t.lifted := by
  induction cs generalizing t with
  | nil => exact .refl _
  | cons c cs ih => exact (ih _).trans (resumeOne_lifted t c)

@[simp] theorem newTagOne_length (position : Position) (previous : List Fragment) (rest : List Component) (t : Tagging)
    (c : Component) : (newTagOne position previous rest t c).comps.length = t.comps.length + 1 := by
  unfold newTagOne
  split <;> simp

@[simp] theorem newTagOne_lifted (position : Position) (previous : List Fragment) (rest : List Component) (t : Tagging)
    (c : Component) : (newTagOne position previous rest t c).lifted = t.lifted := by
  unfold newTagOne
  split <;> rfl

theorem newTags_length (position : Position) (previous : List Fragment) (cs : List Component) (t : Tagging) :
    (newTags position previous cs t).comps.length = t.comps.length + cs.length := by
  induction cs generalizing t with
  | nil => rfl
  | cons c cs ih => simp [newTags, ih, Nat.add_assoc, Nat.add_comm 1]

theorem newTags_lifted (position : Position) (previous : List Fragment) (cs : List Component) (t : Tagging) :
    (newTags position previous cs t).lifted = t.lifted := by
  induction cs generalizing t with
  | nil => rfl
  | cons c cs ih => simp [newTags, ih]

theorem State.tagComponents_length (s : State) : s.tagComponents.comps.length ≤ 4 := by
  have := coilComponents_length s.coveredCoil
  simpa [State.tagComponents, newTags_length, foldl_resumeOne_length, State.historyComponents] using this

theorem State.tagComponents_lifted (s : State) : s.tagComponents.lifted.Sublist s.tracker.lifted := by
  unfold State.tagComponents
  rw [newTags_lifted]
  exact foldl_resumeOne_lifted _ _

/-! ### Fragments (R34) -/

theorem joinByTag_length (coils : Eight Coil) (previous : List Fragment) (seen : List Tag) (comps : List Component) :
    (joinByTag coils previous seen comps).length ≤ comps.length := by
  induction comps generalizing seen with
  | nil => simp [joinByTag]
  | cons c cs ih =>
    unfold joinByTag
    split
    · exact (ih _).trans (by simp)
    · split
      · exact (ih _).trans (by simp)
      · simpa using ih _

/-- R34: each tag that is not joined yet has one fragment. -/
theorem joinByTag_tags (coils : Eight Coil) (previous : List Fragment) (seen : List Tag) (comps : List Component) :
    ((joinByTag coils previous seen comps).map fun f => f.tag).Nodup ∧
      ∀ tag, tag ∈ (joinByTag coils previous seen comps).map (fun f => f.tag) ↔
        tag ∉ seen ∧ ∃ c ∈ comps, c.tag = some tag := by
  induction comps generalizing seen with
  | nil => simp [joinByTag]
  | cons c cs ih =>
    unfold joinByTag
    split
    case h_1 untagged =>
      refine ⟨(ih seen).1, fun tag => ?_⟩
      rw [(ih seen).2 tag]
      simp [untagged]
    case h_2 t tagged =>
      split
      case isTrue known =>
        refine ⟨(ih seen).1, fun tag => ?_⟩
        rw [(ih seen).2 tag]
        have known : t ∈ seen := by simpa using known
        simp only [List.mem_cons, exists_eq_or_imp, tagged, Option.some.injEq]
        constructor
        · exact fun h => ⟨h.1, .inr h.2⟩
        · rintro ⟨hs, rfl | h⟩
          · exact absurd known hs
          · exact ⟨hs, h⟩
      case isFalse new =>
        have new : t ∉ seen := by simpa using new
        obtain ⟨nodup, mem⟩ := ih (t :: seen)
        rw [List.map_cons, List.nodup_cons]
        refine ⟨⟨fun h => ?_, nodup⟩, fun tag => ?_⟩
        · exact absurd List.mem_cons_self ((mem t).1 h).1
        · simp only [List.mem_cons, mem, exists_eq_or_imp, tagged, Option.some.injEq, not_or, joinComponents]
          constructor
          · rintro (rfl | ⟨⟨-, hs⟩, h⟩)
            · exact ⟨new, .inl rfl⟩
            · exact ⟨hs, .inr h⟩
          · rintro ⟨hs, rfl | h⟩
            · exact .inl rfl
            · by_cases ht : tag = t
              · exact .inl ht
              · exact .inr ⟨⟨ht, hs⟩, h⟩

/-- The fragments of an update before its last steps. -/
def State.joinedPans (s : State) : List Fragment :=
  joinByTag s.coils s.tracker.pans [] (s.tagComponents.comps.map (seniorityOf s.sup.position s.coils s.link.peers))

theorem State.joinedPans_length (s : State) : s.joinedPans.length ≤ 4 :=
  (joinByTag_length _ _ _ _).trans (by simpa using s.tagComponents_length)

theorem State.joinedPans_tags (s : State) : (s.joinedPans.map fun f => f.tag).Nodup := (joinByTag_tags _ _ _ _).1

@[simp] theorem reclaimProgram_tag (lifted : List LiftedEntry) (f : Fragment) : (reclaimProgram lifted f).tag = f.tag := by
  unfold reclaimProgram
  split
  · rfl
  · split <;> rfl

@[simp] theorem homeAndContact_tag (position : Position) (peers : List PeerEntry) (f : Fragment) :
    (homeAndContact position peers f).tag = f.tag := rfl

@[simp] theorem joinFragment_tag (cache : List CacheEntry) (peers : List PeerEntry) (f : Fragment) :
    (joinFragment cache peers f).tag = f.tag := by
  unfold joinFragment
  split
  · rfl
  · split <;> rfl

/-- Steps 9 to 11 keep the tags of the fragments. -/
theorem State.runUpdate_pan_tags (s : State) : (s.runUpdate.pans.map fun f => f.tag) = s.joinedPans.map fun f => f.tag := by
  simp [State.runUpdate, State.joinedPans, Function.comp_def]

/-! ### The lifted list (R35 to R37) -/

/-- R36: the entries of step 8. -/
def State.enteringEntries (s : State) : List LiftedEntry :=
  enteringOf s.link.peers s.joinedPans
    ((s.tagComponents.comps.filterMap fun c => c.tag).filter fun x =>
      !(s.tagComponents.comps.map (seniorityOf s.sup.position s.coils s.link.peers)).any fun c => c.tag = some x)
    (releasedOf s.tracker.pans s.joinedPans)

/-- R37: an entry of no fragment's tag stays, and is confirmed where no report is left. -/
def State.keptEntries (s : State) : List LiftedEntry :=
  ((s.tagComponents.lifted ++ s.enteringEntries).filter fun e => !s.joinedPans.any fun f => f.tag = e.tag).map fun e =>
    { e with confirmed := e.confirmed || !e.confirmed && (reportsOf s.link.peers e.tag).isEmpty }

theorem State.runUpdate_lifted (s : State) :
    s.runUpdate.lifted = (evictLifted s.keptEntries.length s.keptEntries).1 := by
  simp only [State.keptEntries, List.length_map]
  rfl

theorem nextEvicted_mem (e : LiftedEntry) (es : List LiftedEntry) : nextEvicted e es ∈ e :: es := by
  induction es generalizing e with
  | nil => simp [nextEvicted]
  | cons x xs ih =>
    unfold nextEvicted
    have := ih (if x.grace < e.grace then x else e)
    split at this <;> rename_i less <;> simp only [less, if_true, if_false] <;> grind

theorem evictLifted_sublist (n : Nat) (l : List LiftedEntry) : (evictLifted n l).1.Sublist l := by
  induction n generalizing l with
  | zero => exact .refl _
  | succ n ih =>
    unfold evictLifted
    split
    · exact .refl _
    · split
      · exact .refl _
      · exact (ih _).trans List.erase_sublist

/-- R37: enough evictions leave four entries. -/
theorem evictLifted_length {n : Nat} {l : List LiftedEntry} (h : l.length ≤ n) :
    (evictLifted n l).1.length ≤ Config.liftedListSize := by
  induction n generalizing l with
  | zero => simp [List.eq_nil_of_length_eq_zero (Nat.le_zero.1 h), evictLifted]
  | succ n ih =>
    unfold evictLifted
    split
    · simp
    · split
      · assumption
      · refine ih ?_
        rw [List.length_erase_of_mem (nextEvicted_mem _ _)]
        simp only [List.length_cons] at h ⊢
        omega

theorem State.runUpdate_lifted_length (s : State) : s.runUpdate.lifted.length ≤ Config.liftedListSize := by
  rw [s.runUpdate_lifted]
  exact evictLifted_length le_rfl

theorem enteringOf_tags (peers : List PeerEntry) (pans : List Fragment) (abandoned : List Tag) (released : List Fragment) :
    ((enteringOf peers pans abandoned released).map fun e => e.tag).Sublist (released.map fun f => f.tag) := by
  simp only [enteringOf, List.map_map]
  exact List.filter_sublist.map _

theorem State.enteringEntries_tags (s : State) :
    (s.enteringEntries.map fun e => e.tag).Sublist (s.tracker.pans.map fun f => f.tag) :=
  (enteringOf_tags _ _ _ _).trans (List.filter_sublist.map _)

theorem State.keptEntries_tags (s : State) :
    (s.keptEntries.map fun e => e.tag).Sublist
      ((s.tracker.lifted.map fun e => e.tag) ++ s.tracker.pans.map fun f => f.tag) := by
  simp only [State.keptEntries, List.map_map]
  refine (List.filter_sublist.map _).trans ?_
  rw [List.map_append]
  exact (s.tagComponents_lifted.map _).append s.enteringEntries_tags

/-- R37: no tag is both tracked and lifted after the update. -/
theorem State.keptEntries_apart (s : State) : ∀ e ∈ s.keptEntries, e.tag ∉ s.joinedPans.map fun f => f.tag := by
  intro e he
  simp only [State.keptEntries, List.mem_map, List.mem_filter] at he
  obtain ⟨x, ⟨-, free⟩, rfl⟩ := he
  simpa using free

end Sys2Proof.Machine

/-! PROOFS. The frames of the moves that stand for several operations, the queue of waiting commands (O2), and the bounded tables
(O57). -/

namespace Sys2Proof.Machine

open Sys2Proof

/-! ### Frames -/

theorem State.startSlot_frame (s : State) :
    s.startSlot = { s with coils := s.startSlot.coils, drive := s.startSlot.drive, sense := s.startSlot.sense } := by
  unfold State.startSlot
  split_ifs <;> rfl

theorem State.readings_frame (codes : Eight (BitVec 12)) (sink : BitVec 12) (s : State) :
    ((s.readCoils codes).readSink sink).withdrawByState =
      { s with
        coils := ((s.readCoils codes).readSink sink).withdrawByState.coils
        drive := ((s.readCoils codes).readSink sink).withdrawByState.drive
        sense := ((s.readCoils codes).readSink sink).withdrawByState.sense } := by
  unfold State.readSink
  dsimp only
  split_ifs <;> rfl

theorem State.probed_frame (i : CoilIx) (s : State) :
    (s.raiseFrequency i).withdrawByState =
      { s with
        coils := (s.raiseFrequency i).withdrawByState.coils
        drive := (s.raiseFrequency i).withdrawByState.drive
        sense := (s.raiseFrequency i).withdrawByState.sense } := by
  rw [State.raiseFrequency_frame]
  rfl

theorem State.setDensities_frame (s : State) :
    s.decideLock.setFrequency.setDensities =
      { s with
        coils := s.decideLock.setFrequency.setDensities.coils
        drive := s.decideLock.setFrequency.setDensities.drive
        freeUsed := s.decideLock.setFrequency.setDensities.freeUsed } := by
  unfold State.setDensities State.setFrequency State.decideLock
  dsimp only
  split_ifs <;> rfl

theorem State.handOver_frame (l : Link) (s : State) :
    ({ s.decideLock.setFrequency.setDensities with link := l } : State).startDrive =
      { s with
        coils := ({ s.decideLock.setFrequency.setDensities with link := l } : State).startDrive.coils
        drive := ({ s.decideLock.setFrequency.setDensities with link := l } : State).startDrive.drive
        sense := ({ s.decideLock.setFrequency.setDensities with link := l } : State).startDrive.sense
        freeUsed := s.decideLock.setFrequency.setDensities.freeUsed
        link := l } := by
  rw [s.setDensities_frame]
  rfl

theorem State.driveMatch_frame (count : Nat) (s : State) : s.driveMatch count = { s with drive := (s.driveMatch count).drive } := by
  unfold State.driveMatch
  split <;> rfl

theorem State.setupReadEnd_frame (image : List Byte) (s : State) :
    s.setupReadEnd image =
      { s with
        image := (s.setupReadEnd image).image
        sup := (s.setupReadEnd image).sup
        setupGood := (s.setupReadEnd image).setupGood
        setup := (s.setupReadEnd image).setup
        coils := (s.setupReadEnd image).coils
        drive := (s.setupReadEnd image).drive } := by
  unfold State.setupReadEnd
  split
  · dsimp only
    split <;> rfl
  · rfl

theorem State.setupReadEnd_sup (image : List Byte) (s : State) :
    (s.setupReadEnd image).sup.held = s.sup.held ∧ (s.setupReadEnd image).sup.position = s.sup.position := by
  unfold State.setupReadEnd
  split
  · dsimp only
    split <;> exact ⟨rfl, rfl⟩
  · exact ⟨rfl, rfl⟩

theorem State.appendSetting_frame (e : CacheEntry) (s : State) :
    s.appendSetting e =
      { s with
        cache := (s.appendSetting e).cache
        link := { s.link with dropped := (s.appendSetting e).link.dropped } } := by
  unfold State.appendSetting
  split_ifs <;> rfl

/-! ### The queue of waiting commands -/

theorem State.Move.keeps_pending {W : Prop} {s t : State} (h : State.Move W s t) : t.pending = s.pending := by
  cases h
  case advance => rw [State.startSlot_frame]
  case append => rw [State.appendSetting_frame]
  case readings => rw [State.readings_frame]
  case probed => rw [State.probed_frame]
  case handOver => rw [State.handOver_frame]
  case driveMatch => rw [State.driveMatch_frame]
  case setupReadEnd => rw [State.setupReadEnd_frame]
  case reset => unfold State.resetBy; split <;> rfl
  all_goals rfl

/-- Every arm of `exec` answers a next state (log entry 6). -/
theorem exec_next (c : Instr) (s : State) : ∃ t, exec c s = .next t := by
  cases c <;> exact ⟨_, rfl⟩

/-- Settles O2: a command is a sequence of moves, none of which touches the queue of waiting commands. -/
theorem everyCommandCompletes : Obligations.EveryCommandCompletes := by
  intro c s
  obtain ⟨t, step⟩ := exec_next c s
  exact ⟨t, step, exec_keeps (P := fun u => u.pending = s.pending) (fun _ _ move h => move.keeps_pending.trans h) step rfl⟩

/-! ### The bounded tables -/

theorem State.TablesSound.queue {s : State} (h : s.TablesSound) : QueueSound s.link.queue :=
  ⟨h.queue_size, h.queue_keys, h.one_contends⟩

/-- Tables stay sound where tags only leave them, the queue stays sound and the peer table is kept. -/
theorem State.TablesSound.of_sublists {s t : State} (h : s.TablesSound)
    (pans : (t.tracker.pans.map fun f => f.tag).Sublist (s.tracker.pans.map fun f => f.tag))
    (lifted : (t.tracker.lifted.map fun e => e.tag).Sublist (s.tracker.lifted.map fun e => e.tag))
    (cache : (t.cache.map fun e => e.tag).Sublist (s.cache.map fun e => e.tag)) (queue : QueueSound t.link.queue)
    (peers : t.link.peers = s.link.peers) (position : t.sup.position = s.sup.position)
    (held : t.sup.held = s.sup.held) : t.TablesSound where
  pans_size := by simpa using pans.length_le.trans (by simpa using h.pans_size)
  lifted_size := by simpa using lifted.length_le.trans (by simpa using h.lifted_size)
  cache_size := by simpa using cache.length_le.trans (by simpa using h.cache_size)
  queue_size := queue.size
  peers_size := peers ▸ h.peers_size
  pan_tags := h.pan_tags.sublist pans
  lifted_tags := h.lifted_tags.sublist lifted
  apart := fun f hf e he same => by
    obtain ⟨g, hg, hgt⟩ := List.mem_map.1 (pans.subset (List.mem_map_of_mem (f := fun f : Fragment => f.tag) hf))
    obtain ⟨x, hx, hxt⟩ := List.mem_map.1 (lifted.subset (List.mem_map_of_mem (f := fun e : LiftedEntry => e.tag) he))
    exact h.apart g hg x hx (hgt.trans (same.trans hxt.symm))
  cache_tags := h.cache_tags.sublist cache
  queue_keys := queue.keys
  one_contends := queue.contends
  peer_keys := peers ▸ h.peer_keys
  peer_areas := peers ▸ h.peer_areas
  peer_ages := peers ▸ h.peer_ages
  peer_foreign := by rw [peers, position]; exact h.peer_foreign
  held_empty := by rw [peers, held]; exact h.held_empty

theorem State.TablesSound.reset (s : State) (h : State.reset.tracker = s.tracker) (c : s.cache = [])
    (l : State.reset.link = s.link) : s.TablesSound := by
  constructor <;> simp [← h, c, ← l, State.reset, Tracker.reset, Link.reset]

/-- R147: a decoded report has area. -/
theorem decodeFragment_report {payload : List Byte} {r : Report} (h : decodeFragment payload = some (.report r)) :
    16 ≤ r.area ∧ ∀ q, r.published = some q → ∀ n, q.program.loop = some n → n ≤ 15 := by
  unfold decodeFragment at h
  split at h
  case isFalse => simp at h
  case isTrue =>
    split at h
    case h_1 => simp at h
    case h_2 => simp at h
    case h_3 =>
      dsimp only at h
      split at h
      case isTrue => simp at h
      case isFalse =>
        split at h
        case isFalse => simp at h
        case isTrue ranges =>
          simp only [Bool.and_eq_true, inRange, decide_eq_true_eq] at ranges
          obtain ⟨⟨⟨area, -⟩, -⟩, -⟩ := ranges
          split at h
          case isFalse => cases h; simpa using area
          case isTrue =>
            split at h
            case h_2 => simp at h
            case h_1 q published =>
              cases h
              refine ⟨area, fun q' hq n hn => ?_⟩
              obtain rfl : q = q' := by simpa using hq
              unfold decodePublished at published
              dsimp only at published
              split at published
              case isFalse => simp at published
              case isTrue fields =>
                cases published
                dsimp only at hn
                simp only [Bool.and_eq_true, Bool.or_eq_true, decide_eq_true_eq] at fields
                split at hn
                · simp at hn
                · cases hn
                  simp_all

/-- R147: what a store leaves of the other entries. -/
theorem storePeer_eq (q : Position) (r : Report) (peers : List PeerEntry) :
    ∃ others : List PeerEntry, others.Sublist (peers.filter fun e => !e.isOf q r.tag) ∧
      others.length < Config.peerTableSize + (peers.length - Config.peerTableSize) ∧
      storePeer q r peers = others ++ [{ source := q, report := r, age := 0 }] := by
  have fewer := List.length_filter_le (fun e : PeerEntry => !e.isOf q r.tag) peers
  unfold storePeer
  dsimp only
  split
  case isTrue room => exact ⟨_, .refl _, by omega, rfl⟩
  case isFalse =>
    refine ⟨_, List.drop_sublist _ _, ?_, rfl⟩
    simp only [List.length_drop, Config.peerTableSize] at *
    omega

theorem State.TablesSound.store {s : State} (h : s.TablesSound) {q : Position} {r : Report} (awake : s.sup.held = false)
    (foreign : q ≠ s.sup.position) (area : 0 < r.area) :
    State.TablesSound { s with link := { s.link with peers := storePeer q r s.link.peers } } := by
  obtain ⟨others, kept, size, eq⟩ := storePeer_eq q r s.link.peers
  have old : ∀ e ∈ others, e ∈ s.link.peers := fun e he => List.mem_of_mem_filter (kept.subset he)
  have new : ∀ e ∈ others, e.source = q → e.report.tag ≠ r.tag := fun e he hq ht => by
    simpa [PeerEntry.isOf, hq, ht] using List.of_mem_filter (kept.subset he)
  rw [eq]
  refine { h with
    peers_size := ?_, peer_keys := ?_, peer_areas := ?_, peer_ages := ?_, peer_foreign := ?_
    held_empty := fun held => absurd held (by simp [awake]) }
  · have := h.peers_size
    simp only [List.length_append, List.length_singleton]
    omega
  · rw [List.map_append, List.nodup_append]
    refine ⟨(h.peer_keys.sublist (List.filter_sublist.map _)).sublist (kept.map _), by simp, ?_⟩
    intro a ha b hb same
    obtain ⟨e, he, rfl⟩ := List.mem_map.1 ha
    obtain rfl : (q, r.tag) = b := (List.mem_singleton.1 hb).symm
    exact new e he (congrArg Prod.fst same) (congrArg Prod.snd same)
  · simpa [or_imp, forall_and, area] using fun e he => h.peer_areas e (old e he)
  · simpa [or_imp, forall_and] using fun e he => h.peer_ages e (old e he)
  · simpa [or_imp, forall_and, foreign] using fun e he => h.peer_foreign e (old e he)

/-- R142: an entry and its key are in the peer table together. -/
theorem State.TablesSound.drop {s : State} (h : s.TablesSound) {p : List PeerEntry}
    (kept : (p.map fun e => (e.source, e.report)).Sublist (s.link.peers.map fun e => (e.source, e.report)))
    (young : ∀ e ∈ p, e.age ≤ 3) : State.TablesSound { s with link := { s.link with peers := p } } := by
  have old : ∀ e ∈ p, ∃ x ∈ s.link.peers, x.source = e.source ∧ x.report = e.report := fun e he => by
    obtain ⟨x, hx, hxe⟩ := List.mem_map.1 (kept.subset (List.mem_map_of_mem (f := fun e : PeerEntry => (e.source, e.report)) he))
    exact ⟨x, hx, congrArg Prod.fst hxe, congrArg Prod.snd hxe⟩
  refine { h with
    peers_size := ?_, peer_keys := ?_, peer_areas := fun e he => ?_, peer_ages := young, peer_foreign := fun e he => ?_
    held_empty := fun held => ?_ }
  · simpa using kept.length_le.trans (by simpa using h.peers_size)
  · have := h.peer_keys.sublist (by simpa [Function.comp_def] using kept.map fun x : Position × Report => (x.1, x.2.tag))
    exact this
  · obtain ⟨x, hx, -, same⟩ := old e he
    exact same ▸ h.peer_areas x hx
  · obtain ⟨x, hx, same, -⟩ := old e he
    exact same ▸ h.peer_foreign x hx
  · have empty := h.held_empty held
    simpa [empty] using kept

/-- R25: the update leaves at most four fragments and entries, all tags apart. -/
theorem State.TablesSound.track {s : State} (h : s.TablesSound) (a : Allocator) :
    State.TablesSound
      { s with
        tracker := { pans := s.runUpdate.pans, lifted := s.runUpdate.lifted, serial := s.runUpdate.serial }
        alloc := a } := by
  have evicted : s.runUpdate.lifted.Sublist s.keptEntries := s.runUpdate_lifted ▸ evictLifted_sublist _ _
  refine { h with
    pans_size := ?_, lifted_size := s.runUpdate_lifted_length, pan_tags := ?_, lifted_tags := ?_, apart := ?_ }
  · have := congrArg List.length s.runUpdate_pan_tags
    simp only [List.length_map] at this
    exact this.le.trans s.joinedPans_length
  · exact s.runUpdate_pan_tags ▸ s.joinedPans_tags
  · refine (List.Nodup.sublist s.keptEntries_tags ?_).sublist (evicted.map _)
    rw [List.nodup_append]
    refine ⟨h.lifted_tags, h.pan_tags, fun a ha b hb same => ?_⟩
    obtain ⟨e, he, rfl⟩ := List.mem_map.1 ha
    obtain ⟨f, hf, rfl⟩ := List.mem_map.1 hb
    exact h.apart f hf e he same.symm
  · intro f hf e he same
    refine s.keptEntries_apart e (evicted.subset he) ?_
    rw [← s.runUpdate_pan_tags, ← same]
    exact List.mem_map_of_mem hf

/-- R51: an appended setting finds or makes room, or is dropped. -/
theorem State.TablesSound.append {s : State} (h : s.TablesSound) {e : CacheEntry} (new : cacheEntry s.cache e.tag = none) :
    (s.appendSetting e).TablesSound := by
  have fresh : ∀ x ∈ s.cache, x.tag ≠ e.tag := by simpa [cacheEntry] using new
  have room {old : List CacheEntry} (sub : old.Sublist s.cache) (size : old.length < Config.cacheSize) (l : Link)
      (link : l = s.link) : State.TablesSound { s with cache := old ++ [e], link := l } := by
    subst link
    refine { h with cache_size := by simpa using size, cache_tags := ?_ }
    rw [List.map_append, List.nodup_append]
    refine ⟨h.cache_tags.sublist (sub.map _), by simp, fun a ha b hb same => ?_⟩
    obtain ⟨x, hx, rfl⟩ := List.mem_map.1 ha
    obtain rfl : e.tag = b := (List.mem_singleton.1 hb).symm
    exact fresh x (sub.subset hx) same
  unfold State.appendSetting
  split_ifs with size evict
  · exact room (.refl _) size s.link rfl
  · obtain ⟨x, hx, free⟩ := List.any_eq_true.1 evict
    have fewer := List.length_eraseP_of_mem (p := fun x : CacheEntry => !s.tagHeld x.tag) hx free
    have size := h.cache_size
    have := List.length_pos_of_mem hx
    exact room List.eraseP_sublist (by simp only [Config.cacheSize] at *; omega) s.link rfl
  · exact { h with }

theorem State.TablesSound.refresh {s : State} (h : s.TablesSound) {old e : CacheEntry} (same : Bool)
    (cached : cacheEntry s.cache e.tag = some old) :
    State.TablesSound
      { s with
        cache := (s.cache.filter fun x => !decide (x.tag = e.tag)) ++ [e], tracker := refreshTracker same e s.tracker } := by
  have tags : ((refreshTracker same e s.tracker).pans.map fun f => f.tag) = s.tracker.pans.map fun f => f.tag := by
    simp only [refreshTracker, List.map_map]
    exact List.map_congr_left fun f _ => by simp only [Function.comp_apply]; split_ifs <;> rfl
  have entries : ((refreshTracker same e s.tracker).lifted.map fun f => f.tag) = s.tracker.lifted.map fun f => f.tag := by
    simp only [refreshTracker, List.map_map]
    exact List.map_congr_left fun f _ => by simp only [Function.comp_apply]; split_ifs <;> rfl
  have base : State.TablesSound { s with tracker := refreshTracker same e s.tracker } :=
    h.of_sublists (tags ▸ .refl _) (entries ▸ .refl _) (.refl _) h.queue rfl rfl rfl
  have mem : old ∈ s.cache := List.mem_of_find?_eq_some cached
  have tag : old.tag = e.tag := by simpa using List.find?_some cached
  have fewer : (s.cache.filter fun x => !decide (x.tag = e.tag)).length < s.cache.length :=
    List.length_filter_lt_length_iff_exists.2 ⟨old, mem, by simp [tag]⟩
  refine { base with cache_size := ?_, cache_tags := ?_ }
  · have := h.cache_size
    simp only [List.length_append, List.length_singleton]
    omega
  · rw [List.map_append, List.nodup_append]
    refine ⟨h.cache_tags.sublist (List.filter_sublist.map _), by simp, fun a ha b hb heq => ?_⟩
    obtain ⟨x, hx, rfl⟩ := List.mem_map.1 ha
    obtain rfl : e.tag = b := (List.mem_singleton.1 hb).symm
    simpa [heq] using List.of_mem_filter hx

theorem quietQueue_sound {q : List QueueEntry} (h : QueueSound q) : QueueSound (quietQueue q) :=
  (h.sublist List.filter_sublist).map (fun e => by split_ifs <;> rfl) fun e => by split_ifs <;> exact id

/-- Settling the queue after an entry of QUIET or STOPPED (R150). -/
theorem State.TablesSound.of_emptied {s t : State} (h : s.TablesSound)
    (pans : (t.tracker.pans.map fun f => f.tag).Sublist (s.tracker.pans.map fun f => f.tag))
    (lifted : (t.tracker.lifted.map fun e => e.tag).Sublist (s.tracker.lifted.map fun e => e.tag)) (cache : t.cache = [])
    (queue : QueueSound t.link.queue) (peers : t.link.peers = s.link.peers) (position : t.sup.position = s.sup.position)
    (held : t.sup.held = s.sup.held) : t.TablesSound :=
  h.of_sublists pans lifted (by simp [cache]) queue peers position held

theorem State.Move.keeps_tablesSound {W : Prop} {s t : State} (move : State.Move W s t) (h : s.TablesSound) : t.TablesSound := by
  have same_pans (g : Fragment → Fragment) (tag : ∀ f, (g f).tag = f.tag) (serial : Fin 4096) (a : Allocator) :
      State.TablesSound
        { s with alloc := a, tracker := { pans := s.tracker.pans.map g, lifted := s.tracker.lifted, serial := serial } } :=
    h.of_sublists (by simp [Function.comp_def, tag]) (.refl _) (.refl _) h.queue rfl rfl rfl
  cases move
  case link l served => exact h.of_sublists (.refl _) (.refl _) (.refl _) (served.queue h.queue) served.peers rfl rfl
  case peers p kept young => exact h.drop kept (young h.peer_ages)
  case storePeer q r decoded awake foreign =>
    obtain ⟨payload, decoded⟩ := decoded
    exact h.store awake foreign (by have := (decodeFragment_report decoded).1; omega)
  case lifted l kept =>
    refine h.of_sublists (.refl _) ?_ (.refl _) h.queue rfl rfl rfl
    simpa [Function.comp_def] using kept.map Prod.fst
  case follow r _ =>
    refine same_pans _ (fun f => ?_) _ _
    unfold followFragment
    split_ifs
    · split
      · split_ifs <;> rfl
      · rfl
    · rfl
  case expire gone =>
    refine h.of_sublists ?_ ?_ (List.filter_sublist.map _) h.queue rfl rfl rfl
    · simp only [State.expire, removePrograms, List.map_map]
      rw [List.map_congr_left (g := fun f => f.tag)]
      exact fun f _ => by simp only [Function.comp_apply]; split_ifs <;> rfl
    · simp only [State.expire, removePrograms, List.map_map]
      rw [List.map_congr_left (g := fun f => f.tag)]
      exact fun f _ => by simp only [Function.comp_apply]; split_ifs <;> rfl
  case ageCache => exact h.of_sublists (.refl _) (.refl _) (by simp [Function.comp_def]) h.queue rfl rfl rfl
  case tickPans due =>
    refine same_pans _ (fun f => ?_) _ _
    unfold tickFragment
    split_ifs
    · split <;> rfl
    · rfl
  case refresh old e _ cached => exact h.refresh _ cached
  case append e _ new => exact h.append new
  case sup u touched _ =>
    exact { h with peer_foreign := touched.position ▸ h.peer_foreign, held_empty := touched.held ▸ h.held_empty }
  case assertLine u touched =>
    exact { h with peer_foreign := touched.position ▸ h.peer_foreign, held_empty := touched.held ▸ h.held_empty }
  case track => exact h.track _
  case figures a share => exact same_pans (fun f => { f with share := share f }) (fun _ => rfl) _ _
  case handOver l served _ =>
    rw [State.handOver_frame]
    exact h.of_sublists (.refl _) (.refl _) (.refl _) (served.queue h.queue) served.peers rfl rfl
  case enterStopped =>
    refine h.of_emptied ?_ ?_ rfl (h.queue.replaceFrame _ _) rfl rfl rfl
    · rw [s.enterStopped_from.pans, List.map_map]; exact .refl _
    · rw [s.enterStopped_from.lifted, List.map_map]; exact .refl _
  case enterQuiet =>
    exact h.of_emptied (by simp [s.enterQuiet_from.tables.1]) (by simp [s.enterQuiet_from.tables.1]) rfl
      ((quietQueue_sound h.queue).replaceFrame _ _) rfl rfl rfl
  case enterSilent =>
    refine h.of_emptied ?_ ?_ rfl .nil rfl rfl rfl
    · simp only [State.enterSilent, State.dropPrograms, State.zeroFigures, List.map_map]; exact .refl _
    · simp only [State.enterSilent, State.dropPrograms, State.zeroFigures, List.map_map]; exact .refl _
  case reset cause =>
    unfold State.resetBy
    split
    · exact { h with }
    · exact .reset _ rfl rfl rfl
  case endReset straps held =>
    have empty := h.held_empty held
    exact { h with peer_foreign := by simp [State.endReset, empty], held_empty := fun _ => empty }
  case setupReadEnd image _ =>
    have sup := s.setupReadEnd_sup image
    rw [State.setupReadEnd_frame]
    exact { h with peer_foreign := sup.2 ▸ h.peer_foreign, held_empty := sup.1 ▸ h.held_empty }
  case advance => rw [State.startSlot_frame]; exact { h with }
  case readings => rw [State.readings_frame]; exact { h with }
  case probed => rw [State.probed_frame]; exact { h with }
  case driveMatch => rw [State.driveMatch_frame]; exact { h with }
  all_goals exact { h with }

/-- Settles O57: every command is a sequence of moves, and every move keeps the tables. -/
theorem everyCommandKeepsTablesSound : Obligations.EveryCommandKeepsTablesSound := fun _ _ _ h step =>
  exec_keeps (fun _ _ move => move.keeps_tablesSound) step h

end Sys2Proof.Machine

/-! PROOFS. Every program state lies within a cached setting of its tag (R53; O58). -/

namespace Sys2Proof.Machine

open Sys2Proof

/-! ### Settings (R48, R154) -/

/-- A setting of one to six steps, each as the clamps leave it. -/
def StepsSound (steps : List Step) : Prop :=
  (1 ≤ steps.length ∧ steps.length ≤ 6) ∧ ∀ k, k < steps.length → (stepAt steps k).Clamped k

theorem decodeStep_clamped (k w : Nat) : (decodeStep k w).Clamped k where
  target := Nat.min_le_left _ _
  duration := Nat.min_le_left _ _
  loop := fun l hl => by
    unfold decodeStep at hl
    dsimp only at hl
    split at hl
    case isTrue back =>
      simp only [Bool.and_eq_true, decide_eq_true_eq] at back
      cases hl
      exact ⟨back.1, back.2, by dsimp only; omega⟩
    case isFalse => simp at hl

theorem decodeSetting_stepsSound {payload : List Byte} {st : Setting} (h : decodeSetting payload = some st) :
    StepsSound st.steps := by
  have sound (n : Nat) (hn : 1 ≤ n ∧ n ≤ 6) :
      StepsSound ((List.range n).map fun k => decodeStep k (stepWord payload k)) := by
    refine ⟨by simpa using hn, fun k hk => ?_⟩
    have hk : k < n := by simpa using hk
    rw [stepAt, List.getD_eq_getElem _ _ (by simpa using hk)]
    simpa using decodeStep_clamped k _
  unfold decodeSetting at h
  dsimp only at h
  split at h
  case isFalse => simp at h
  case isTrue fits =>
    simp only [Bool.and_eq_true, inRange, decide_eq_true_eq] at fits
    split at h
    · simp at h
    · cases h; exact sound _ fits.1.2
    · cases h; exact sound _ fits.1.2

/-! ### What happens to a program state (R39, R49, R50, R55, R56, R60) -/

section Within

variable {e : CacheEntry} {p : Program}

theorem Program.Within.start (sound : StepsSound e.steps) : (startProgram e.revision e.steps).Within e where
  revision := rfl
  step := sound.1.1
  remaining := le_rfl
  loop := by simp [startProgram]
  done := by simp [startProgram]

theorem Program.Within.finish (sound : StepsSound e.steps) (revision : p.revision = e.revision) :
    (doneProgram e.steps p).Within e where
  revision := revision
  step := Nat.sub_lt sound.1.1 Nat.one_pos
  remaining := Nat.zero_le _
  loop := by simp [doneProgram]
  done := fun _ => ⟨rfl, rfl, rfl⟩

/-- R50, R60: a state of the entry's revision brought within the entry's own steps. -/
theorem Program.Within.checked (sound : StepsSound e.steps) (revision : p.revision = e.revision)
    (loop : ∀ n, p.loop = some n → n ≤ 15) : (checkPublished e.steps p).Within e := by
  unfold checkPublished
  split
  case isTrue => exact .finish sound revision
  case isFalse running =>
    simp only [Bool.or_eq_true, decide_eq_true_eq, not_or, not_le, Bool.not_eq_true] at running
    refine ⟨revision, running.2, ?_, loop, by simp [running.1]⟩
    dsimp only
    split_ifs <;> omega

theorem Program.Within.reconciled (sound : StepsSound e.steps) (revision : p.revision = e.revision)
    (loop : ∀ n, p.loop = some n → n ≤ 15) : (reconcile e.steps p).Within e := .checked sound revision loop

/-- R56: a program that goes to a step of its setting. -/
theorem Program.Within.goTo {k : Nat} (within : p.Within e) (running : p.done = false) (hk : k < e.steps.length)
    {loop : Option Nat} (bound : ∀ n, loop = some n → n ≤ 15) : { goToStep e.steps k p with loop := loop }.Within e where
  revision := within.revision
  step := hk
  remaining := le_rfl
  loop := bound
  done := by simp [goToStep, running]

theorem Program.Within.fallsThrough (sound : StepsSound e.steps) (within : p.Within e) (running : p.done = false) :
    (fallThrough e.steps p).Within e := by
  unfold fallThrough
  split
  · exact within.goTo running ‹_› within.loop
  · exact .finish sound within.revision

theorem Program.Within.ended (sound : StepsSound e.steps) (within : p.Within e) (running : p.done = false) :
    (endStep e.steps p).Within e := by
  have clamped := sound.2 p.step within.step
  unfold endStep
  split
  · exact within.fallsThrough sound running
  · rename_i l loop
    obtain ⟨back, count, top⟩ := clamped.loop l loop
    dsimp only
    split
    · refine within.goTo running (back.trans within.step) fun n hn => ?_
      have counter : p.loop.getD l.count ≤ 15 := by
        cases hp : p.loop with
        | none => exact top
        | some m => exact within.loop m hp
      simp only [Option.some.injEq] at hn
      omega
    · exact Program.Within.fallsThrough sound
        ⟨within.revision, within.step, within.remaining, by simp, by simp [running]⟩ running

theorem Program.Within.ticked (sound : StepsSound e.steps) (within : p.Within e) : (tickProgram e.steps p).Within e := by
  unfold tickProgram
  split_ifs with done untimed ends
  · exact within
  · exact within
  · have running : p.done = false := by simpa using done
    exact Program.Within.ended sound ⟨within.revision, within.step, Nat.zero_le _, within.loop, by simp [running]⟩ running
  · have running : p.done = false := by simpa using done
    exact ⟨within.revision, within.step, (Nat.sub_le _ _).trans within.remaining, within.loop, by simp [running]⟩

end Within

/-! ### Program states of a tag -/

/-- R53: a program state, if there is one, lies within the cached setting of the tag. -/
def Held (cache : List CacheEntry) (tag : Tag) (program : Option Program) : Prop :=
  ∀ p, program = some p → ∃ e, cacheEntry cache tag = some e ∧ p.Within e

theorem Held.none (cache : List CacheEntry) (tag : Tag) : Held cache tag none := by simp [Held]

theorem State.ProgramsSound.pan_held {s : State} (h : s.ProgramsSound) {f : Fragment} (hf : f ∈ s.tracker.pans) :
    Held s.cache f.tag f.program := h.pans f hf

theorem State.ProgramsSound.lifted_held {s : State} (h : s.ProgramsSound) {e : LiftedEntry} (he : e ∈ s.tracker.lifted) :
    Held s.cache e.tag e.program := h.lifted e he

theorem State.ProgramsSound.steps {s : State} (h : s.ProgramsSound) {e : CacheEntry} (he : e ∈ s.cache) : StepsSound e.steps :=
  ⟨h.steps_count e he, h.steps_clamped e he⟩

theorem State.ProgramsSound.entry {s : State} (h : s.ProgramsSound) {t : Tag} {e : CacheEntry}
    (he : cacheEntry s.cache t = some e) : StepsSound e.steps := h.steps (List.mem_of_find?_eq_some he)

/-- R53, said once of each table. -/
theorem State.ProgramsSound.of_held {s : State} (steps : ∀ e ∈ s.cache, StepsSound e.steps)
    (pans : ∀ f ∈ s.tracker.pans, Held s.cache f.tag f.program)
    (lifted : ∀ e ∈ s.tracker.lifted, Held s.cache e.tag e.program)
    (peers : ∀ e ∈ s.link.peers, ∀ q, e.report.published = some q → ∀ n, q.program.loop = some n → n ≤ 15) :
    s.ProgramsSound :=
  ⟨fun e he => (steps e he).1, fun e he => (steps e he).2, pans, lifted, peers⟩

/-- R53: a change of the programs that keeps each within the cache. -/
theorem State.ProgramsSound.withTracker {s : State} (h : s.ProgramsSound) (tr : Tracker)
    (pans : ∀ f ∈ tr.pans, Held s.cache f.tag f.program) (lifted : ∀ e ∈ tr.lifted, Held s.cache e.tag e.program) :
    State.ProgramsSound { s with tracker := tr } := { h with pans := pans, lifted := lifted }

/-- The fragments of a pan table changed one by one. -/
theorem State.ProgramsSound.mapPans {s : State} (h : s.ProgramsSound) (g : Fragment → Fragment)
    (kept : ∀ f ∈ s.tracker.pans, Held s.cache f.tag f.program → Held s.cache (g f).tag (g f).program) :
    State.ProgramsSound { s with tracker := { s.tracker with pans := s.tracker.pans.map g } } := by
  refine h.withTracker _ (fun f hf => ?_) h.lifted
  obtain ⟨x, hx, rfl⟩ := List.mem_map.1 hf
  exact kept x hx (h.pan_held hx)

theorem State.ProgramsSound.follow {s : State} (h : s.ProgramsSound) {r : Report}
    (loop : ∀ q, r.published = some q → ∀ n, q.program.loop = some n → n ≤ 15) :
    State.ProgramsSound { s with tracker := { s.tracker with pans := s.tracker.pans.map (followFragment s.cache r) } } := by
  refine h.mapPans _ fun f _ held => ?_
  unfold followFragment
  split_ifs
  · split
    · rename_i own p e program published entry
      obtain ⟨q, hq, rfl⟩ := Option.map_eq_some_iff.1 published
      split_ifs with revision
      · rintro _ ⟨⟩
        obtain ⟨e', entry', within⟩ := held own program
        obtain rfl : e = e' := Option.some.inj (entry.symm.trans entry')
        exact ⟨e, entry, .checked (h.entry entry) (revision ▸ within.revision) (loop q hq)⟩
      · exact held
    · exact held
  · exact held

theorem State.ProgramsSound.tick {s : State} (h : s.ProgramsSound) (due : Fragment → Bool) :
    State.ProgramsSound
      { s with
        tracker := { s.tracker with pans := s.tracker.pans.map fun f => if due f then tickFragment s.cache f else f } } := by
  refine h.mapPans _ fun f _ held => ?_
  split_ifs
  · unfold tickFragment
    split
    · rename_i p e program entry
      rintro _ ⟨⟩
      obtain ⟨e', entry', within⟩ := held p program
      obtain rfl : e = e' := Option.some.inj (entry.symm.trans entry')
      exact ⟨e, entry, within.ticked (h.entry entry)⟩
    · exact held
  · exact held

/-! ### The cache (R46 to R52) -/

theorem cacheEntry_filter {keep : Tag → Bool} (cache : List CacheEntry) {t : Tag} (ht : keep t = true) :
    cacheEntry (cache.filter fun e => keep e.tag) t = cacheEntry cache t := by
  unfold cacheEntry
  rw [List.find?_filter]
  congr 1
  funext e
  by_cases he : e.tag = t <;> simp [he, ht]

theorem State.ProgramsSound.expire {s : State} (h : s.ProgramsSound) (gone : Tag → Bool) : (s.expire gone).ProgramsSound := by
  have kept (t : Tag) (program : Option Program) (held : Held s.cache t program) :
      Held (s.expire gone).cache t (if gone t then Option.none else program) := by
    split_ifs with gone_t
    · exact .none _ _
    · unfold Held State.expire at *
      rwa [cacheEntry_filter (keep := fun t => !gone t) s.cache (by simpa using gone_t)]
  refine .of_held ?_ ?_ ?_ h.peers
  · exact fun e he => h.steps (List.mem_of_mem_filter he)
  · intro f hf
    obtain ⟨x, hx, rfl⟩ := List.mem_map.1 hf
    simpa only [apply_ite Fragment.tag, apply_ite Fragment.program, ite_self] using kept _ _ (h.pan_held hx)
  · intro e he
    obtain ⟨x, hx, rfl⟩ := List.mem_map.1 he
    simpa only [apply_ite LiftedEntry.tag, apply_ite LiftedEntry.program, ite_self] using kept _ _ (h.lifted_held hx)

theorem State.ProgramsSound.age {s : State} (h : s.ProgramsSound) :
    State.ProgramsSound { s with cache := s.cache.map fun e => { e with age := e.age + 1 } } := by
  have kept (t : Tag) (program : Option Program) (held : Held s.cache t program) :
      Held (s.cache.map fun e => { e with age := e.age + 1 }) t program := by
    intro p hp
    obtain ⟨e, entry, within⟩ := held p hp
    refine ⟨{ e with age := e.age + 1 }, ?_, ⟨within.revision, within.step, within.remaining, within.loop, within.done⟩⟩
    unfold cacheEntry at *
    rw [List.find?_map]
    exact congrArg _ entry
  exact
    { steps_count := by simpa using h.steps_count
      steps_clamped := by simpa using h.steps_clamped
      pans := fun f hf => kept _ _ (h.pan_held hf)
      lifted := fun e he => kept _ _ (h.lifted_held he)
      peers := h.peers }

/-- R51: the entries of held tags stay, and the new one goes behind them. -/
theorem State.ProgramsSound.append {s : State} (h : s.ProgramsSound) {e : CacheEntry} (sound : StepsSound e.steps) :
    (s.appendSetting e).ProgramsSound := by
  have room (old : List CacheEntry) (sub : old.Sublist s.cache)
      (found : ∀ t, s.tagHeld t = true → cacheEntry old t = cacheEntry s.cache t) :
      State.ProgramsSound { s with cache := old ++ [e] } := by
    have kept (t : Tag) (program : Option Program) (tag : s.tagHeld t = true) (held : Held s.cache t program) :
        Held (old ++ [e]) t program := by
      intro p hp
      obtain ⟨x, entry, within⟩ := held p hp
      refine ⟨x, ?_, within⟩
      rw [← found t tag] at entry
      unfold cacheEntry at *
      rw [List.find?_append, entry, Option.some_or]
    refine .of_held ?_ (fun f hf => ?_) (fun x hx => ?_) h.peers
    · simpa [or_imp, forall_and, sound] using fun x hx => h.steps (sub.subset hx)
    · exact kept _ _ (by simpa [State.tagHeld] using .inl ⟨f, hf, rfl⟩) (h.pan_held hf)
    · exact kept _ _ (by simpa [State.tagHeld] using .inr ⟨x, hx, rfl⟩) (h.lifted_held hx)
  unfold State.appendSetting
  split_ifs
  · exact room _ (.refl _) fun _ _ => rfl
  · refine room _ List.eraseP_sublist fun t held => ?_
    generalize s.cache = cache
    induction cache with
    | nil => rfl
    | cons x xs ih =>
      unfold cacheEntry at *
      by_cases hx : s.tagHeld x.tag = true
      · rw [List.eraseP_cons_of_neg (by simp [hx]), List.find?_cons, List.find?_cons, ih]
      · have other : x.tag ≠ t := fun same => hx (same ▸ held)
        rw [List.eraseP_cons_of_pos (by simp [hx]), List.find?_cons_of_neg (by simp [other])]
  · exact { h with }

/-- R49, R50: the programs of the refreshed tag restart or are reconciled; the other tags find their entries as before. -/
theorem State.ProgramsSound.refresh {s : State} (h : s.ProgramsSound) {old e : CacheEntry} (sound : StepsSound e.steps)
    (cached : cacheEntry s.cache e.tag = some old) :
    State.ProgramsSound
      { s with
        cache := (s.cache.filter fun x => !decide (x.tag = e.tag)) ++ [e]
        tracker := refreshTracker (decide (old.revision = e.revision)) e s.tracker } := by
  have others (t : Tag) (ht : t ≠ e.tag) :
      cacheEntry ((s.cache.filter fun x => !decide (x.tag = e.tag)) ++ [e]) t = cacheEntry s.cache t := by
    have kept := cacheEntry_filter (keep := fun t => !decide (t = e.tag)) s.cache (t := t) (by simpa using ht)
    unfold cacheEntry at *
    rw [List.find?_append, kept]
    simp [Ne.symm ht]
  have own : cacheEntry ((s.cache.filter fun x => !decide (x.tag = e.tag)) ++ [e]) e.tag = some e := by
    unfold cacheEntry
    rw [List.find?_append, List.find?_eq_none.2 (by simp)]
    simp
  have kept (t : Tag) (program : Option Program) (held : Held s.cache t program) :
      Held ((s.cache.filter fun x => !decide (x.tag = e.tag)) ++ [e]) t
        (if t = e.tag then program.map (refreshProgram (decide (old.revision = e.revision)) e) else program) := by
    split_ifs with ht
    · intro p hp
      obtain ⟨q, hq, rfl⟩ := Option.map_eq_some_iff.1 hp
      obtain ⟨x, entry, within⟩ := held q hq
      obtain rfl : old = x := Option.some.inj (cached.symm.trans (ht ▸ entry))
      refine ⟨e, ht ▸ own, ?_⟩
      unfold refreshProgram
      split
      case isTrue same => exact .reconciled sound (within.revision.trans (by simpa using same)) within.loop
      case isFalse => exact .start sound
    · unfold Held
      rwa [others t ht]
  refine .of_held ?_ ?_ ?_ h.peers
  · simpa [or_imp, forall_and, sound] using fun x hx _ => h.steps hx
  · intro f hf
    obtain ⟨x, hx, rfl⟩ := List.mem_map.1 hf
    simpa only [apply_ite Fragment.tag, apply_ite Fragment.program, ite_self] using kept _ _ (h.pan_held hx)
  · intro l hl
    obtain ⟨x, hx, rfl⟩ := List.mem_map.1 hl
    simpa only [apply_ite LiftedEntry.tag, apply_ite LiftedEntry.program, ite_self] using kept _ _ (h.lifted_held hx)

end Sys2Proof.Machine

/-! PROOFS. The program states a tracking update leaves (R27 to R39), and O58. -/

namespace Sys2Proof.Machine

open Sys2Proof

/-! ### Choices among a list -/

/-- A fold that keeps one of its two arguments ends at a member. -/
theorem foldl_choice_mem {α : Type} {f : α → α → α} (h : ∀ a b, f a b = a ∨ f a b = b) (a : α) (l : List α) :
    l.foldl f a ∈ a :: l := by
  induction l generalizing a with
  | nil => simp
  | cons b l ih =>
    rw [List.foldl_cons]
    rcases h a b with eq | eq <;> rw [eq]
    · exact List.cons_subset_cons a (List.subset_cons_self b l) (ih a)
    · exact List.mem_cons_of_mem a (ih b)

theorem betterFragment_choice (set : List CoilIx) (a b : Fragment) : betterFragment set a b = a ∨ betterFragment set a b = b := by
  unfold betterFragment
  split_ifs <;> simp

theorem betterLifted_choice (set : List CoilIx) (a b : LiftedEntry) : betterLifted set a b = a ∨ betterLifted set a b = b := by
  unfold betterLifted
  split_ifs <;> simp

theorem betterOffer_choice (a b : Report) : betterOffer a b = a ∨ betterOffer a b = b := by
  unfold betterOffer
  split_ifs <;> simp

theorem betterHome_choice (a b : PeerEntry) : betterHome a b = a ∨ betterHome a b = b := by
  unfold betterHome
  split_ifs <;> simp

theorem leadingPart_choice (a b : Component) : leadingPart a b = a ∨ leadingPart a b = b := by
  unfold leadingPart
  split_ifs <;> simp

/-- R27: a candidate is a previous fragment that shares a coil. -/
theorem candidateOf_mem {previous : List Fragment} {set : List CoilIx} {f : Fragment} (h : candidateOf previous set = some f) :
    f ∈ previous ∧ 0 < sharedCoils f.coils set := by
  unfold candidateOf at h
  split at h
  · simp at h
  · rename_i g gs eq
    obtain rfl := Option.some.inj h
    have mem := foldl_choice_mem (betterFragment_choice set) g gs
    rw [← eq, List.mem_filter] at mem
    simpa using mem

/-- R30: a resumed entry is one of the list that shares a coil. -/
theorem resumable_mem {lifted : List LiftedEntry} {set : List CoilIx} {e : LiftedEntry} (h : resumable lifted set = some e) :
    e ∈ lifted ∧ 0 < sharedCoils e.footprint set := by
  unfold resumable at h
  split at h
  · simp at h
  · rename_i g gs eq
    obtain rfl := Option.some.inj h
    have mem := foldl_choice_mem (betterLifted_choice set) g gs
    rw [← eq, List.mem_filter] at mem
    simpa using mem

/-- R39: the report a fragment joins by is a peer entry that carries a program of the entry's revision. -/
theorem joinReport_mem {peers : List PeerEntry} {e : CacheEntry} {q : PeerEntry} (h : joinReport peers e = some q) :
    q ∈ peers ∧ ∀ p, q.report.program? = some p → p.revision = e.revision := by
  unfold joinReport at h
  split at h
  · simp at h
  · rename_i g gs eq
    obtain rfl := Option.some.inj h
    have mem := foldl_choice_mem betterHome_choice g gs
    rw [← eq, List.mem_filter, reportsOf, List.mem_filter] at mem
    obtain ⟨⟨mem, -⟩, carries⟩ := mem
    refine ⟨mem, fun p hp => ?_⟩
    simp only [Bool.and_eq_true] at carries
    simpa [hp] using carries.2

/-! ### Components and their programs -/

/-- R53: the program state of a component, if it has one, lies within the cached setting of the component's tag. -/
def Component.Sound (cache : List CacheEntry) (c : Component) : Prop :=
  ∀ p, c.program = some p → ∃ t, c.tag = some t ∧ ∃ e, cacheEntry cache t = some e ∧ p.Within e

variable {cache : List CacheEntry}

theorem Component.Sound.held {c : Component} (h : c.Sound cache) {t : Tag} (tag : c.tag = some t) : Held cache t c.program := by
  intro p hp
  obtain ⟨u, hu, within⟩ := h p hp
  obtain rfl : t = u := Option.some.inj (tag.symm.trans hu)
  exact within

theorem Component.Sound.of_held {c : Component} {t : Tag} (tag : c.tag = some t) (h : Held cache t c.program) :
    c.Sound cache := fun p hp => ⟨t, tag, h p hp⟩

theorem Component.Sound.of_none {c : Component} (h : c.program = none) : c.Sound cache := by simp [Component.Sound, h]

/-- A component without a tag has no program. -/
theorem Component.Sound.program_none {c : Component} (h : c.Sound cache) (tag : c.tag = none) : c.program = none := by
  cases hp : c.program with
  | none => rfl
  | some p =>
    obtain ⟨t, ht, -⟩ := h p hp
    simp [tag] at ht

theorem ownHistory_sound {previous : List Fragment} (held : ∀ f ∈ previous, Held cache f.tag f.program)
    (sets : List (List CoilIx)) {c : Component} (h : c.Sound cache) : (ownHistory previous sets c).Sound cache := by
  unfold ownHistory
  split
  · exact h
  · rename_i f candidate
    split
    · exact h
    · exact .of_held rfl (held f (candidateOf_mem candidate).1)

theorem neighbourEdge_sound (position : Position) (peers : List PeerEntry) {c : Component} (h : c.Sound cache) :
    (neighbourEdge position peers c).Sound cache := by
  unfold neighbourEdge
  split
  · exact h
  · rename_i untagged
    split
    · exact h
    · exact .of_none (h.program_none untagged)

/-- R30, R31: what steps 4 and 5 keep of the components and the lifted list. -/
structure Tagging.Sound (cache : List CacheEntry) (t : Tagging) : Prop where
  comps : ∀ c ∈ t.comps, c.Sound cache
  lifted : ∀ e ∈ t.lifted, Held cache e.tag e.program

theorem resumeOne_sound {t : Tagging} {c : Component} (h : t.Sound cache) (hc : c.Sound cache) :
    (resumeOne t c).Sound cache := by
  unfold resumeOne
  split
  · exact ⟨by simpa [or_imp, forall_and] using ⟨h.comps, hc⟩, h.lifted⟩
  · split
    · exact ⟨by simpa [or_imp, forall_and] using ⟨h.comps, hc⟩, h.lifted⟩
    · rename_i e resumed
      refine ⟨?_, fun x hx => h.lifted x (List.mem_of_mem_filter hx)⟩
      simpa [or_imp, forall_and] using
        ⟨h.comps, Component.Sound.of_held rfl (h.lifted e (resumable_mem resumed).1)⟩

theorem newTagOne_sound (position : Position) (previous : List Fragment) (rest : List Component) {t : Tagging} {c : Component}
    (h : t.Sound cache) (hc : c.Sound cache) : (newTagOne position previous rest t c).Sound cache := by
  unfold newTagOne
  split
  · exact ⟨by simpa [or_imp, forall_and] using ⟨h.comps, hc⟩, h.lifted⟩
  · refine ⟨?_, h.lifted⟩
    simpa [or_imp, forall_and] using ⟨h.comps, Component.Sound.of_none rfl⟩

theorem foldl_resumeOne_sound {cs : List Component} {t : Tagging} (h : t.Sound cache) (hc : ∀ c ∈ cs, c.Sound cache) :
    (cs.foldl resumeOne t).Sound cache := by
  induction cs generalizing t with
  | nil => exact h
  | cons c cs ih =>
    obtain ⟨hc, hcs⟩ := List.forall_mem_cons.1 hc
    exact ih (resumeOne_sound h hc) hcs

theorem newTags_sound (position : Position) (previous : List Fragment) {cs : List Component} {t : Tagging} (h : t.Sound cache)
    (hc : ∀ c ∈ cs, c.Sound cache) : (newTags position previous cs t).Sound cache := by
  induction cs generalizing t with
  | nil => exact h
  | cons c cs ih =>
    obtain ⟨hc, hcs⟩ := List.forall_mem_cons.1 hc
    exact ih (newTagOne_sound position previous cs h hc) hcs

theorem seniorityOf_sound (position : Position) (coils : Eight Coil) (peers : List PeerEntry) {c : Component}
    (h : c.Sound cache) : (seniorityOf position coils peers c).Sound cache := by
  unfold seniorityOf
  split
  · exact h
  · unfold seniority
    dsimp only
    split
    case isTrue => exact h
    case isFalse noProgram =>
      have none : c.program = none := by simpa using noProgram
      split
      · exact .of_none none
      · split_ifs
        · exact .of_none none
        · exact .of_none none

theorem joinComponents_held {coils : Eight Coil} {previous : List Fragment} {tag : Tag} {c : Component} {cs : List Component}
    (sound : ∀ x ∈ c :: cs, x.Sound cache) (tags : ∀ x ∈ c :: cs, x.tag = some tag) :
    Held cache tag (joinComponents coils previous tag c cs).program :=
  have lead := foldl_choice_mem leadingPart_choice c cs
  (sound _ lead).held (tags _ lead)

theorem joinByTag_held (coils : Eight Coil) (previous : List Fragment) (seen : List Tag) {comps : List Component}
    (sound : ∀ c ∈ comps, c.Sound cache) : ∀ f ∈ joinByTag coils previous seen comps, Held cache f.tag f.program := by
  induction comps generalizing seen with
  | nil => simp [joinByTag]
  | cons c cs ih =>
    obtain ⟨hc, hcs⟩ := List.forall_mem_cons.1 sound
    unfold joinByTag
    split
    case h_1 => exact ih _ hcs
    case h_2 t tagged =>
      split
      case isTrue => exact ih _ hcs
      case isFalse =>
        refine List.forall_mem_cons.2 ⟨joinComponents_held ?_ ?_, ih _ hcs⟩
        · exact List.forall_mem_cons.2 ⟨hc, fun x hx => hcs x (List.mem_of_mem_filter hx)⟩
        · exact List.forall_mem_cons.2 ⟨tagged, fun x hx => by simpa [joinComponents] using List.of_mem_filter hx⟩

/-! ### The update -/

section Update

variable {s : State}

theorem State.ProgramsSound.tagging (h : s.ProgramsSound) : s.tagComponents.Sound s.cache := by
  have history : ∀ c ∈ s.historyComponents, c.Sound s.cache := by
    intro c hc
    simp only [State.historyComponents, List.mem_map] at hc
    obtain ⟨_, ⟨set, -, rfl⟩, rfl⟩ := hc
    exact neighbourEdge_sound _ _ (ownHistory_sound (fun f hf => h.pan_held hf) _ (.of_none rfl))
  have resumed := foldl_resumeOne_sound
    (t := { comps := [], lifted := s.tracker.lifted, serial := s.tracker.serial, requests := [] })
    ⟨by simp, fun e he => h.lifted_held he⟩ history
  exact newTags_sound _ _ ⟨by simp, resumed.lifted⟩ resumed.comps

theorem State.ProgramsSound.joined (h : s.ProgramsSound) : ∀ f ∈ s.joinedPans, Held s.cache f.tag f.program := by
  refine joinByTag_held _ _ _ fun c hc => ?_
  obtain ⟨x, hx, rfl⟩ := List.mem_map.1 hc
  exact seniorityOf_sound _ _ _ (h.tagging.comps x hx)

theorem State.ProgramsSound.kept (h : s.ProgramsSound) :
    ∀ e ∈ s.tagComponents.lifted ++ s.enteringEntries, Held s.cache e.tag e.program := by
  simp only [List.mem_append, or_imp, forall_and]
  refine ⟨h.tagging.lifted, fun e he => ?_⟩
  obtain ⟨f, hf, rfl⟩ := List.mem_map.1 he
  exact h.pan_held (List.mem_of_mem_filter (List.mem_of_mem_filter hf))

theorem reclaimProgram_held {lifted : List LiftedEntry} (held : ∀ e ∈ lifted, Held cache e.tag e.program) {f : Fragment}
    (h : Held cache f.tag f.program) : Held cache f.tag (reclaimProgram lifted f).program := by
  unfold reclaimProgram
  split
  · exact h
  · split
    · rename_i e found
      have tag : e.tag = f.tag := by simpa using List.find?_some found
      exact tag ▸ held e (List.mem_of_find?_eq_some found)
    · exact h

/-- R39: a join takes the state a home publishes or starts afresh. -/
theorem joinProgram_within {peers : List PeerEntry} {e : CacheEntry} (sound : StepsSound e.steps)
    (loops : ∀ x ∈ peers, ∀ q, x.report.published = some q → ∀ n, q.program.loop = some n → n ≤ 15) :
    (joinProgram peers e).Within e := by
  unfold joinProgram
  split
  · rename_i p found
    obtain ⟨q, report, published⟩ := Option.bind_eq_some_iff.1 found
    obtain ⟨mem, revision⟩ := joinReport_mem report
    obtain ⟨x, hx, rfl⟩ := Option.map_eq_some_iff.1 published
    exact .checked sound (revision _ published) (loops q mem x hx)
  · exact .start sound

theorem State.ProgramsSound.joinFragment (h : s.ProgramsSound) {f : Fragment} (held : Held s.cache f.tag f.program) :
    Held s.cache f.tag (joinFragment s.cache s.link.peers f).program := by
  unfold Machine.joinFragment
  split
  · exact held
  · split
    · exact held
    · rename_i e entry
      rintro _ ⟨⟩
      exact ⟨e, entry, joinProgram_within (h.entry entry) h.peers⟩

theorem State.ProgramsSound.track (h : s.ProgramsSound) (a : Allocator) :
    State.ProgramsSound
      { s with
        tracker := { pans := s.runUpdate.pans, lifted := s.runUpdate.lifted, serial := s.runUpdate.serial }
        alloc := a } := by
  refine .of_held (fun e he => h.steps he) (fun f hf => ?_) (fun e he => ?_) h.peers
  · simp only [State.runUpdate, List.mem_map] at hf
    obtain ⟨_, ⟨_, ⟨g, hg, rfl⟩, rfl⟩, rfl⟩ := hf
    rw [joinFragment_tag]
    refine h.joinFragment ?_
    rw [homeAndContact_tag, reclaimProgram_tag]
    exact reclaimProgram_held (fun e he => h.kept e (List.mem_of_mem_filter he)) (h.joined g hg)
  · have mem : e ∈ s.keptEntries := (evictLifted_sublist _ _).subset (s.runUpdate_lifted ▸ he)
    simp only [State.keptEntries, List.mem_map] at mem
    obtain ⟨x, hx, rfl⟩ := mem
    exact h.kept x (List.mem_of_mem_filter hx)

end Update

/-! ### Every move -/

theorem State.ProgramsSound.store {s : State} (h : s.ProgramsSound) (q : Position) {r : Report}
    (loop : ∀ p, r.published = some p → ∀ n, p.program.loop = some n → n ≤ 15) :
    State.ProgramsSound { s with link := { s.link with peers := storePeer q r s.link.peers } } := by
  obtain ⟨others, kept, -, eq⟩ := storePeer_eq q r s.link.peers
  rw [eq]
  exact { h with
    peers := by
      simpa [or_imp, forall_and] using
        ⟨fun e he => h.peers e (List.mem_of_mem_filter (kept.subset he)), loop⟩ }

/-- Where every program is dropped the cache may be emptied (R63). -/
theorem State.ProgramsSound.of_dropped {s t : State} (h : s.ProgramsSound) (pans : ∀ f ∈ t.tracker.pans, f.program = none)
    (lifted : ∀ e ∈ t.tracker.lifted, e.program = none) (cache : t.cache = []) (peers : t.link.peers = s.link.peers) :
    t.ProgramsSound :=
  .of_held (by simp [cache]) (fun f hf => pans f hf ▸ .none _ _) (fun e he => lifted e he ▸ .none _ _) (peers ▸ h.peers)

theorem State.Move.keeps_programsSound {W : Prop} {s t : State} (move : State.Move W s t) (h : s.ProgramsSound) :
    t.ProgramsSound := by
  cases move
  case link l served => exact { h with peers := served.peers ▸ h.peers }
  case peers p kept _ =>
    refine { h with peers := fun e he => ?_ }
    obtain ⟨x, hx, same⟩ :=
      List.mem_map.1 (kept.subset (List.mem_map_of_mem (f := fun e : PeerEntry => (e.source, e.report)) he))
    have same : x.report = e.report := congrArg Prod.snd same
    exact same ▸ h.peers x hx
  case storePeer q r decoded _ _ =>
    obtain ⟨payload, decoded⟩ := decoded
    exact h.store q (decodeFragment_report decoded).2
  case lifted l kept =>
    refine h.withTracker { s.tracker with lifted := l } (fun f hf => h.pan_held hf) fun e he => ?_
    obtain ⟨x, hx, same⟩ :=
      List.mem_map.1 (kept.subset (List.mem_map_of_mem (f := fun e : LiftedEntry => (e.tag, e.program)) he))
    obtain ⟨tag, program⟩ := Prod.mk.inj same
    exact tag ▸ program ▸ h.lifted_held hx
  case follow r decoded =>
    obtain ⟨payload, decoded⟩ := decoded
    exact h.follow (decodeFragment_report decoded).2
  case expire gone => exact h.expire gone
  case ageCache => exact h.age
  case tickPans due => exact h.tick due
  case refresh old e decoded cached =>
    obtain ⟨payload, st, decoded, steps⟩ := decoded
    exact h.refresh (steps ▸ decodeSetting_stepsSound decoded) cached
  case append e decoded _ =>
    obtain ⟨payload, st, decoded, steps⟩ := decoded
    exact h.append (steps ▸ decodeSetting_stepsSound decoded)
  case track => exact h.track _
  case figures a share =>
    refine .of_held (fun e he => h.steps he) (fun f hf => ?_) (fun e he => h.lifted_held he) h.peers
    obtain ⟨g, hg, rfl⟩ := List.mem_map.1 hf
    exact h.pans g hg
  case handOver l served _ =>
    rw [State.handOver_frame]
    exact { h with peers := served.peers ▸ h.peers }
  case enterStopped =>
    refine h.of_dropped ?_ ?_ rfl rfl
    · simp [s.enterStopped_from.pans]
    · simp [s.enterStopped_from.lifted]
  case enterQuiet => exact h.of_dropped (by simp [s.enterQuiet_from.tables.1]) (by simp [s.enterQuiet_from.tables.1]) rfl rfl
  case enterSilent =>
    refine h.of_dropped ?_ ?_ rfl rfl <;> simp [State.enterSilent, State.dropPrograms, State.zeroFigures]
  case reset cause =>
    unfold State.resetBy
    split
    · exact { h with }
    · constructor <;> simp [State.restart, State.reset, Tracker.reset, Link.reset]
  case advance => rw [State.startSlot_frame]; exact { h with }
  case readings => rw [State.readings_frame]; exact { h with }
  case probed => rw [State.probed_frame]; exact { h with }
  case driveMatch => rw [State.driveMatch_frame]; exact { h with }
  case setupReadEnd => rw [State.setupReadEnd_frame]; exact { h with }
  all_goals exact { h with }

/-- Settles O58: every command is a sequence of moves, and every move keeps each program state within its setting. -/
theorem everyCommandKeepsProgramsSound : Obligations.EveryCommandKeepsProgramsSound := fun _ _ _ h step =>
  exec_keeps (fun _ _ move => move.keeps_programsSound) step h

end Sys2Proof.Machine

/-! PROOFS. O56 fails. `State.Safe` has no clause that keeps a module in RUN off an asserted stop line, and R94 does not force a
density to 0 for the stop line: from a safe state in RUN with no density and the line asserted, the hand-over sets a density above
0. -/

namespace Sys2Proof.Machine

open Sys2Proof

namespace Asserted

/-- One fitted coil of 600 W nominal. -/
def coilSetup : CoilSetup :=
  { CoilSetup.idle with fitted := true, floor := 41, coilMax := 100, nominalPower := 60, softTemp := 100, hardTemp := 200 }

def setup : Setup :=
  { Setup.idle with
    phaseLimit := 300, moduleMax := 300, startFrequency := 50, sinkSoft := 90, sinkHard := 120
    coils := Eight.fill CoilSetup.idle |>.set 0 coilSetup }

def coil : Coil := { Coil.reset with fitted := true, presence := .pan, coverage := 64, temperature := some 20, overheat := false }

def tag : Tag := { creator := 0, serial := 1 }

def pan : Fragment :=
  { tag := tag, coils := [0], area := 64, edge := Eight.fill 0 |>.set 0 64, origin := .tracked
    program := some { revision := 0, step := 0, remaining := 0, loop := none, done := false }
    home := true, contact := false, panContact := false, share := 0 }

def entry : CacheEntry :=
  { tag := tag, revision := 0, mode := .endOnly, steps := [{ target := 40, duration := 0, loop := none }], age := 0 }

/-- A module in RUN at the allocation point of slot 1, a pan of 400 W on its one coil, nothing driven, and another station driving the
stop line. -/
def running : State :=
  { State.reset with
    timebase := { Timebase.reset with mainsClass := .hz50, halfCycle := 1, allocationRaised := true }
    coils := Eight.fill Coil.reset |>.set 0 coil
    tracker := { pans := [pan], lifted := [], serial := 2 }
    cache := [entry]
    alloc := { Allocator.zero with joined := true }
    sense := { Sense.reset with sinkTemp := some 20 }
    sup := { Supervisor.reset with state := .run, held := false, stopExternal := true }
    setupGood := true
    setup := setup }

theorem running_safe : running.Safe where
  start := by constructor <;> simp [running, State.reset, Supervisor.reset]
  sweep := by constructor <;> simp [running, State.reset, Probe.reset, Timebase.reset, Drive.reset]
  drive := by
    constructor
    case heating_iff => decide
    case never_both => decide
    all_goals simp [running, State.reset, Drive.reset]

/-- R94: the hand-over gives the coil its share of the grant. -/
theorem running_density : 0 < running.allocationPoint.drive.density.get 0 := by decide +kernel

theorem running_asserted : running.allocationPoint.stopAsserted = true := by decide +kernel

end Asserted

/-- Refutes O56: the allocation point of `Asserted.running` leaves a density above 0 while the stop line is asserted. -/
theorem not_everyCommandKeepsDriveSafe : ¬ Obligations.EveryCommandKeepsDriveSafe := by
  intro keeps
  have step : exec .allocationPoint Asserted.running = .next Asserted.running.allocationPoint := rfl
  have safe := keeps .allocationPoint Asserted.running _ Asserted.running_safe step
  have released := (safe.drive.density_free 0 Asserted.running_density).2
  exact absurd Asserted.running_asserted (by simp [released])

end Sys2Proof.Machine

/-! PROOFS. The frequency and the floors (R97, R98, R106, R109; O59). What the densities need beside them is that a driven coil is
flagged heating, that only RUN drives, and that RUN has a good setup. -/

namespace Sys2Proof.Machine

open Sys2Proof

/-! ### What the frequency takes for granted of the drive -/

/-- The part of `State.Safe` that the frequency rests on. -/
structure State.Warm (s : State) : Prop where
  start : s.StartSound
  heating_iff : ∀ i, (s.coils.get i).heating = decide (0 < s.drive.density.get i)
  density_run : ∀ i, 0 < s.drive.density.get i → s.sup.state = .run

theorem State.Safe.warm {s : State} (h : s.Safe) : s.Warm := ⟨h.start, h.drive.heating_iff, h.drive.density_run⟩

theorem State.Warm.density_good {s : State} (h : s.Warm) {i : CoilIx} (hi : 0 < s.drive.density.get i) : s.setupGood = true :=
  (h.start.running_ready (.inr (.inl (h.density_run i hi)))).1

theorem State.Warm.density_zero {s : State} (h : s.Warm) (idle : s.sup.state ≠ .run) (i : CoilIx) :
    s.drive.density.get i = 0 := by
  by_contra above
  exact idle (h.density_run i (Nat.pos_of_ne_zero above))

/-- R94, R101: a change of the drive and the records that keeps every density tied to its heating flag and to a density before. -/
theorem State.Warm.of_densities {s t : State} (h : s.Warm)
    (heating : ∀ i, (t.coils.get i).heating = decide (0 < t.drive.density.get i))
    (above : ∀ i, 0 < t.drive.density.get i → 0 < s.drive.density.get i) (sup : t.sup = s.sup)
    (setup : t.setupGood = s.setupGood) (mains : t.timebase.mainsClass = s.timebase.mainsClass) : t.Warm where
  start :=
    { held_loading := by rw [sup, setup]; exact h.start.held_loading
      reading_loading := by rw [sup, setup]; exact h.start.reading_loading
      bad_not_loaded := by rw [sup, setup]; exact h.start.bad_not_loaded
      running_ready := by rw [sup, setup, mains]; exact h.start.running_ready }
  heating_iff := heating
  density_run := fun i hi => by rw [sup]; exact h.density_run i (above i hi)

/-- Densities and heating flags as before. -/
theorem State.Warm.congr {s t : State} (h : s.Warm) (coils : ∀ i, (t.coils.get i).heating = (s.coils.get i).heating)
    (density : t.drive.density = s.drive.density) (sup : t.sup = s.sup) (setup : t.setupGood = s.setupGood)
    (mains : t.timebase.mainsClass = s.timebase.mainsClass) : t.Warm :=
  h.of_densities (fun i => by rw [coils, density]; exact h.heating_iff i) (fun i => by rw [density]; exact id) sup setup mains

theorem State.Warm.cut {s : State} (h : s.Warm) (cut counted : CoilIx → Bool) : (s.cutSet cut counted).Warm := by
  refine h.of_densities (fun i => ?_) (fun i => ?_) rfl rfl rfl
  · cases hc : cut i <;> simp [hc, h.heating_iff i]
  · cases hc : cut i <;> simp [hc]

theorem State.Warm.cutAll {s : State} (h : s.Warm) : s.cutAll.Warm := h.cut _ _

/-- Only the density and the heating flag of a coil count. -/
theorem State.Warm.withCoils {s : State} (h : s.Warm) {c : Eight Coil}
    (heating : ∀ i, (c.get i).heating = (s.coils.get i).heating) : State.Warm { s with coils := c } :=
  h.congr heating rfl rfl rfl rfl

/-- Nothing is driven at the entry of a module state. -/
theorem State.Warm.of_off {s t : State} (h : s.Warm) (off : t.DriveOff) (ready : s.Ready)
    (entered : t.sup.state = .quiet ∨ t.sup.state = .stopped) (held : t.sup.held = s.sup.held)
    (reading : t.sup.reading = s.sup.reading) (setup : t.setupGood = s.setupGood)
    (mains : t.timebase.mainsClass = s.timebase.mainsClass) : t.Warm := by
  have good : s.setupGood = true ∧ s.timebase.mainsClass ≠ .unknown := by
    rcases ready with done | running
    · simp only [State.loadingDone, Bool.and_eq_true, decide_eq_true_eq] at done
      exact ⟨done.1.2, done.2⟩
    · exact h.start.running_ready running
  have awake {b : Bool} (bad : b = true → s.sup.state = .loading ∧ s.setupGood = false) : b = true → False := fun hb => by
    simpa [good.1] using (bad hb).2
  exact
    { start :=
        { held_loading := fun x => (awake h.start.held_loading (held ▸ x)).elim
          reading_loading := fun x => (awake h.start.reading_loading (reading ▸ x)).elim
          bad_not_loaded := fun x => by simp [x] at entered
          running_ready := fun _ => by rw [setup, mains]; exact good }
      heating_iff := fun i => by simp [off.heating i, off.density]
      density_run := fun i => by simp [off.density] }

theorem State.Warm.reset {s : State} (sup : s.sup.state = .loading) (setup : s.setupGood = false)
    (coils : s.coils = Eight.fill Coil.reset) (drive : s.drive = Drive.reset) : s.Warm where
  start := by constructor <;> simp [sup, setup]
  heating_iff := by simp [coils, drive, Coil.reset, Drive.reset]
  density_run := by simp [drive, Drive.reset]

theorem State.readCoils_heating (codes : Eight (BitVec 12)) (s : State) (i : CoilIx) :
    ((s.readCoils codes).coils.get i).heating = (s.coils.get i).heating := by
  simp only [State.readCoils, Eight.get_mapIx]
  split
  · unfold applyReading
    split
    · rfl
    · split_ifs <;> rfl
  · rfl

theorem State.readCoils_warm {s : State} (h : s.Warm) (codes : Eight (BitVec 12)) : (s.readCoils codes).Warm :=
  h.withCoils (State.readCoils_heating codes s)

theorem State.readSink_warm {s : State} (h : s.Warm) (code : BitVec 12) : (s.readSink code).Warm := by
  have sensed : State.Warm { s with sense := applySink s.setup.sinkHard (temperatureOf code) s.sense } :=
    h.congr (fun _ => rfl) rfl rfl rfl rfl
  unfold State.readSink
  dsimp only
  split
  · exact sensed.cut _ _
  · exact sensed

theorem State.raiseFrequency_warm {s : State} (h : s.Warm) (i : CoilIx) : (s.raiseFrequency i).Warm := by
  unfold State.raiseFrequency
  split
  · exact h.congr (fun _ => rfl) rfl rfl rfl rfl
  · exact h

theorem State.startDrive_warm {s : State} (h : s.Warm) : s.startDrive.Warm :=
  h.congr s.startDrive_heating rfl rfl rfl rfl

theorem State.startSlot_warm {s : State} (h : s.Warm) : s.startSlot.Warm := by
  unfold State.startSlot
  split_ifs
  · exact h.congr (fun _ => rfl) rfl rfl rfl rfl
  · exact h
  · exact State.startDrive_warm h

/-- R94: the hand-over sets the heating flags with the densities, in RUN only. -/
theorem State.setDensities_warm {s : State} (h : s.StartSound) : s.setDensities.Warm where
  start := { h with }
  heating_iff := by simp [State.setDensities]
  density_run := fun i hi => by
    by_contra idle
    have forced : s.densityForced i = true := by
      simp only [State.densityForced, Bool.or_eq_true, decide_eq_true_eq]
      exact .inr idle
    simp [State.setDensities, State.densityOf, forced] at hi

theorem State.setFrequency_frame (s : State) :
    s.decideLock.setFrequency =
      { s with
        coils := s.decideLock.coils
        drive := s.decideLock.setFrequency.drive
        freeUsed := s.decideLock.setFrequency.freeUsed } := by
  unfold State.setFrequency State.decideLock
  dsimp only
  split_ifs <;> rfl

theorem State.handOver_warm {s : State} (h : s.Warm) (l : Link) :
    State.Warm (State.startDrive { s.decideLock.setFrequency.setDensities with link := l }) := by
  have before : s.decideLock.setFrequency.StartSound := by
    rw [State.setFrequency_frame]
    exact { h.start with }
  exact State.startDrive_warm ((State.setDensities_warm before).congr (fun _ => rfl) rfl rfl rfl rfl)

theorem State.Move.keeps_warm {W : Prop} {s t : State} (move : State.Move W s t) (h : s.Warm) : t.Warm := by
  cases move
  case timebase t mains slot _ allocation lost => exact ⟨{ h.start with running_ready := mains ▸ h.start.running_ready }, h.heating_iff, h.density_run⟩
  case setClass t slot allocation unknown =>
    exact ⟨{ h.start with running_ready := fun running => absurd unknown (h.start.running_ready running).2 }, h.heating_iff,
      h.density_run⟩
  case advance => exact State.startSlot_warm ⟨{ h.start with }, h.heating_iff, h.density_run⟩
  case takeAllocation => exact ⟨{ h.start with }, h.heating_iff, h.density_run⟩
  case setMainsLost =>
    have lost : State.Warm { s with timebase := { s.timebase with syntheticRun := 8, mainsLost := true } } :=
      ⟨{ h.start with }, h.heating_iff, h.density_run⟩
    exact lost.cutAll
  case setLinkBlocked =>
    have blocked : State.Warm { s with link := { s.link with blockedCount := 5, linkBlocked := true } } :=
      ⟨{ h.start with }, h.heating_iff, h.density_run⟩
    exact blocked.cutAll
  case sup u touched _ =>
    exact
      { start :=
          { held_loading := by rw [touched.held, touched.state]; exact h.start.held_loading
            reading_loading := by rw [touched.reading, touched.state]; exact h.start.reading_loading
            bad_not_loaded := by rw [touched.state]; exact h.start.bad_not_loaded
            running_ready := by rw [touched.state]; exact h.start.running_ready }
        heating_iff := h.heating_iff
        density_run := by rw [touched.state]; exact h.density_run }
  case assertLine u touched =>
    refine State.Warm.cut (s := { s with sup := u }) ?_ _ _
    exact
      { start :=
          { held_loading := by rw [touched.held, touched.state]; exact h.start.held_loading
            reading_loading := by rw [touched.reading, touched.state]; exact h.start.reading_loading
            bad_not_loaded := by rw [touched.state]; exact h.start.bad_not_loaded
            running_ready := by rw [touched.state]; exact h.start.running_ready }
        heating_iff := h.heating_iff
        density_run := by rw [touched.state]; exact h.density_run }
  case coils c serviced => exact h.withCoils fun i => (serviced i).heating
  case cut => exact h.cut _ _
  case overcurrent i =>
    refine (h.cut _ _).withCoils (s := s.cutCoil i) fun j => ?_
    rw [Eight.get_update]
    split <;> rfl
  case readings codes sink => exact (State.readSink_warm (State.readCoils_warm h codes) sink).cut _ _
  case probed i c _ =>
    refine (State.raiseFrequency_warm (h.withCoils fun j => ?_) i).cut _ _
    rw [Eight.get_update]
    split <;> rfl
  case handOver l _ _ => exact State.handOver_warm h l
  case driveMatch count =>
    unfold State.driveMatch
    split
    · exact h.congr (fun _ => rfl) rfl rfl rfl rfl
    · exact h
  case closeHalfCycle =>
    refine State.Warm.cut (s := { s with
      drive := { s.drive with driven := Eight.fill false, highGate := Eight.fill false, lowGate := Eight.fill false }
      sense := { s.sense with window := s.sense.window.mapIx s.closedWindow, acc := Eight.fill Accumulator.clear }
      coils := s.coils.mapIx fun i (c : Coil) => { c with liftSuspected := c.liftSuspected || s.liftAt i } }) ?_ _ _
    exact h.of_densities (fun i => by simpa using h.heating_iff i) (fun _ => id) rfl rfl rfl
  case enterStopped ready =>
    exact h.of_off s.enterStopped_from.cut.driveOff ready (.inr rfl) rfl rfl rfl rfl
  case enterQuiet ready => exact h.of_off s.enterQuiet_from.off ready (.inl rfl) rfl rfl rfl rfl
  case enterRun cause idle =>
    have running : s.sup.state = .quiet ∨ s.sup.state = .run ∨ s.sup.state = .stopped := by tauto
    have good := h.start.running_ready running
    exact
      { start :=
          { held_loading := fun x => by simpa [good.1] using (h.start.held_loading x).2
            reading_loading := fun x => by simpa [good.1] using (h.start.reading_loading x).2
            bad_not_loaded := by simp
            running_ready := fun _ => good }
        heating_iff := h.heating_iff
        density_run := fun _ _ => rfl }
  case enterSilent loaded =>
    have off := s.cutAll_allCut.driveOff
    exact
      { start :=
          { held_loading := fun x => absurd (h.start.held_loading x).1 loaded
            reading_loading := fun x => absurd (h.start.reading_loading x).1 loaded
            bad_not_loaded := by simp
            running_ready := by simp }
        heating_iff := fun i => (off.heating i).trans (by
          change _ = decide (0 < s.cutAll.drive.density.get i)
          simp [off.density])
        density_run := fun i hi => by
          change 0 < s.cutAll.drive.density.get i at hi
          simp [off.density] at hi }
  case reset cause =>
    unfold State.resetBy
    split
    case isTrue held => exact ⟨{ h.start with }, h.heating_iff, h.density_run⟩
    case isFalse => exact .reset rfl rfl rfl rfl
  case endReset straps held =>
    exact ⟨{ h.start with held_loading := by simp [State.endReset], reading_loading := fun _ => h.start.held_loading held },
      h.heating_iff, h.density_run⟩
  case setupReadEnd image awake =>
    unfold State.setupReadEnd
    split
    case isFalse => exact h
    case isTrue reading =>
      have loading := h.start.reading_loading reading
      have zero := h.density_zero (by simp [loading.1])
      dsimp only
      split
      · exact
          { start := by constructor <;> simp [State.loadSetup, loading.1, awake]
            heating_iff := by simp [State.loadSetup, loadCoil, h.heating_iff, zero]
            density_run := by simp [State.loadSetup, zero] }
      · exact
          { start := by constructor <;> simp [State.failSetup, loading.2, awake]
            heating_iff := h.heating_iff
            density_run := by simp [State.failSetup, zero] }
  case append =>
    rw [State.appendSetting_frame]
    exact ⟨{ h.start with }, h.heating_iff, h.density_run⟩
  all_goals exact ⟨{ h.start with }, h.heating_iff, h.density_run⟩

end Sys2Proof.Machine

/-! PROOFS. The hand-over's lock and frequency (R97, R104 to R109): what each step of it sets, and the bounds of the floors. -/

namespace Sys2Proof.Machine

open Sys2Proof

/-! ### The largest of a figure over a set of coils -/

section MaxOver

theorem le_foldl_max {α : Type} (f : α → Nat) (l : List α) (m : Nat) : m ≤ l.foldl (fun m i => max m (f i)) m := by
  induction l generalizing m with
  | nil => exact le_rfl
  | cons a l ih => exact (le_max_left _ _).trans (ih _)

theorem le_foldl_max_of_mem {α : Type} (f : α → Nat) {l : List α} {a : α} (h : a ∈ l) (m : Nat) :
    f a ≤ l.foldl (fun m i => max m (f i)) m := by
  induction l generalizing m with
  | nil => simp at h
  | cons b l ih =>
    rcases List.mem_cons.1 h with rfl | h
    · exact (le_max_right _ _).trans (le_foldl_max f l _)
    · exact ih h _

theorem foldl_max_cases {α : Type} (f : α → Nat) (l : List α) (m : Nat) :
    l.foldl (fun m i => max m (f i)) m = m ∨ ∃ a ∈ l, l.foldl (fun m i => max m (f i)) m = f a := by
  induction l generalizing m with
  | nil => simp
  | cons b l ih =>
    simp only [List.foldl_cons, List.mem_cons, exists_eq_or_imp]
    rcases ih (max m (f b)) with h | h
    · rw [h]
      rcases max_choice m (f b) with hm | hm <;> simp [hm]
    · exact .inr (.inr h)

variable (base : Nat) (p : CoilIx → Bool) (f : CoilIx → Nat)

theorem base_le_maxOver : base ≤ maxOver base p f := le_foldl_max f _ base

theorem le_maxOver {i : CoilIx} (h : p i = true) : f i ≤ maxOver base p f :=
  le_foldl_max_of_mem f (List.mem_filter.2 ⟨mem_allCoils i, h⟩) base

theorem maxOver_cases : maxOver base p f = base ∨ ∃ i, p i = true ∧ maxOver base p f = f i :=
  (foldl_max_cases f _ base).imp_right fun ⟨i, hi, h⟩ => ⟨i, List.of_mem_filter hi, h⟩

/-- A figure of the base or of a coil of the set stays within what bounds both. -/
theorem maxOver_le {base : Nat} {p : CoilIx → Bool} {f : CoilIx → Nat} {top : Nat} (hb : base ≤ top)
    (hf : ∀ i, p i = true → f i ≤ top) : maxOver base p f ≤ top := by
  rcases maxOver_cases base p f with h | ⟨i, hi, h⟩
  · exact h.trans_le hb
  · exact h.trans_le (hf i hi)

end MaxOver

/-! ### Step 1: the lock (R104 to R108) -/

section Lock

variable {s : State}

theorem State.decideLock_bad (h : s.setupGood = false) : s.decideLock = s := by simp [State.decideLock, h]

/-- R104, R106 to R108: all that the lock decision sets, after a good setup. -/
theorem State.decideLock_good (h : s.setupGood = true) :
    s.decideLock =
      { s with
        coils := s.coils.mapIx fun i c => { c with held := s.heldFlag s.roleDecision.1 i }
        drive :=
          { s.drive with
            role := s.roleDecision.1
            pendingCounter := s.roleDecision.2
            leftMask := s.assignedLeft
            rightMask := s.assignedRight
            rightContribution := s.rightFloor
            lockFloor := s.computeLockFloor
            ownFloor := s.decideLock.computeOwnFloor
            chainFloor := max s.decideLock.computeOwnFloor s.rightFloor } } := by
  have own : s.decideLock.computeOwnFloor =
      State.computeOwnFloor
        { s with coils := s.coils.mapIx fun i (c : Coil) => { c with held := s.heldFlag s.roleDecision.1 i } } := by
    simp only [State.decideLock, h, if_true]
    rfl
  rw [own]
  simp only [State.decideLock, h, if_true]
  rfl

@[simp] theorem State.decideLock_setupGood (s : State) : s.decideLock.setupGood = s.setupGood := by
  unfold State.decideLock
  split <;> rfl

@[simp] theorem State.decideLock_alloc (s : State) : s.decideLock.alloc = s.alloc := by
  unfold State.decideLock
  split <;> rfl

@[simp] theorem State.decideLock_sup (s : State) : s.decideLock.sup = s.sup := by
  unfold State.decideLock
  split <;> rfl

@[simp] theorem State.decideLock_sense (s : State) : s.decideLock.sense = s.sense := by
  unfold State.decideLock
  split <;> rfl

@[simp] theorem State.decideLock_setup (s : State) : s.decideLock.setup = s.setup := by
  unfold State.decideLock
  split <;> rfl

@[simp] theorem State.decideLock_freeUsed (s : State) : s.decideLock.freeUsed = s.freeUsed := by
  unfold State.decideLock
  split <;> rfl

@[simp] theorem State.decideLock_frequency (s : State) : s.decideLock.drive.frequency = s.drive.frequency := by
  unfold State.decideLock
  split <;> rfl

/-- R108: the decision changes the held flag of a record alone. -/
theorem State.decideLock_coil (s : State) (i : CoilIx) :
    s.decideLock.coils.get i = { s.coils.get i with held := (s.decideLock.coils.get i).held } := by
  unfold State.decideLock
  split <;> simp

@[simp] theorem State.decideLock_floor (s : State) (i : CoilIx) : (s.decideLock.coils.get i).floor = (s.coils.get i).floor := by
  rw [State.decideLock_coil]

@[simp] theorem State.decideLock_leaderFrequency (s : State) : s.decideLock.leaderFrequency = s.leaderFrequency := by
  unfold State.leaderFrequency State.leader State.rosterOf
  simp

/-- R107: FOLLOWING is decided of a matched leader that is fresh. -/
theorem decideRole_following {leader : Freshness} {adjacent matched : Bool} {role : LockRole} {counter : Nat}
    (h : (decideRole leader adjacent matched role counter).1 = .following) : leader = .fresh ∧ matched = true := by
  unfold decideRole at h
  cases leader with
  | gone => simp at h
  | recent => cases adjacent <;> simp at h
  | fresh =>
    cases adjacent
    case false => simp at h
    case true =>
      cases matched
      case true => exact ⟨rfl, rfl⟩
      case false => cases role <;> simp [apply_ite Prod.fst] at h; split_ifs at h

theorem State.floor_le_lockFloor {i : CoilIx} (h : s.alloc.assigned.get i = true) :
    (s.coils.get i).floor ≤ s.computeLockFloor :=
  le_maxOver _ (fun i => s.alloc.assigned.get i) (fun i => (s.coils.get i).floor) h

theorem State.floor_le_ownFloor {i : CoilIx} (h : s.alloc.assigned.get i = true) (free : (s.coils.get i).held = false) :
    (s.coils.get i).floor ≤ s.computeOwnFloor :=
  le_maxOver _ _ (fun i => (s.coils.get i).floor) (by simp [h, free])

end Lock

/-! ### Steps 2 and 3: raw densities and the frequency (R93, R97, R109) -/

section Frequency

variable {s : State}

/-- R93, R94: the state with its raw densities. -/
def State.rawDensities (s : State) : State :=
  { s with drive := { s.drive with rawDensity := Eight.ofFn fun i => rawDensityOf (s.alloc.grant.get i) (s.powerTaken i) } }

theorem State.setFrequency_bad (h : s.setupGood = false) : s.setFrequency = s.rawDensities := by
  simp [State.setFrequency, State.rawDensities, h]

theorem State.setFrequency_good (h : s.setupGood = true) :
    s.setFrequency =
      { s.rawDensities with
        drive := { s.rawDensities.drive with frequency := s.rawDensities.frequencyByRole }
        freeUsed := s.setFrequency.freeUsed } := by
  simp only [State.setFrequency, State.rawDensities, h, if_true]

@[simp] theorem State.setFrequency_coils (s : State) : s.setFrequency.coils = s.coils := by
  unfold State.setFrequency
  dsimp only
  split <;> rfl

@[simp] theorem State.setFrequency_alloc (s : State) : s.setFrequency.alloc = s.alloc := by
  unfold State.setFrequency
  dsimp only
  split <;> rfl

@[simp] theorem State.setFrequency_sup (s : State) : s.setFrequency.sup = s.sup := by
  unfold State.setFrequency
  dsimp only
  split <;> rfl

theorem State.setFrequency_rawDensity (s : State) (i : CoilIx) :
    s.setFrequency.drive.rawDensity.get i = rawDensityOf (s.alloc.grant.get i) (s.powerTaken i) := by
  unfold State.setFrequency
  dsimp only
  split <;> simp

/-- The frequency step leaves the lock as decided. -/
theorem State.setFrequency_lock (s : State) :
    s.setFrequency.drive.role = s.drive.role ∧ s.setFrequency.drive.chainFloor = s.drive.chainFloor ∧
      s.setFrequency.drive.lockFloor = s.drive.lockFloor := by
  unfold State.setFrequency
  dsimp only
  split <;> exact ⟨rfl, rfl, rfl⟩

theorem chain_le_clampToChain (chain f : Nat) : chain ≤ clampToChain chain f := le_max_left _ _

/-- R97: outside FOLLOWING the frequency stands at the chain floor or above. -/
theorem State.chainFloor_le_frequencyByRole (h : s.drive.role ≠ .following) : s.drive.chainFloor ≤ s.frequencyByRole := by
  unfold State.frequencyByRole
  split
  · exact chain_le_clampToChain _ _
  · exact chain_le_clampToChain _ _
  · exact absurd ‹_› h
  · exact le_rfl
  · exact le_rfl

/-- R97: and, with its chain floor, at 140 or below. -/
theorem State.frequencyByRole_le (h : s.drive.role ≠ .following) (chain : s.drive.chainFloor ≤ 140) : s.frequencyByRole ≤ 140 := by
  have clamped (f : Nat) : clampToChain s.drive.chainFloor f ≤ 140 := max_le chain (min_le_left _ _)
  unfold State.frequencyByRole
  split
  · exact clamped _
  · exact clamped _
  · exact absurd ‹_› h
  · exact chain
  · exact chain

theorem State.frequencyByRole_following (h : s.drive.role = .following) : s.frequencyByRole = s.leaderFrequency := by
  simp [State.frequencyByRole, h]

/-- R97 to R109: after a good setup the hand-over's frequency is the leader's where it follows, and at the chain floor or above
otherwise. -/
theorem State.handOver_frequency (h : s.setupGood = true) :
    s.decideLock.setFrequency.drive.frequency = s.decideLock.rawDensities.frequencyByRole := by
  rw [State.setFrequency_good (by simpa using h)]

/-- R97, R106, R107: the frequency of a hand-over is at or above the floor of every assigned coil that is not held. -/
theorem State.floor_le_frequency (h : s.setupGood = true) {i : CoilIx} (assigned : s.alloc.assigned.get i = true)
    (free : (s.decideLock.coils.get i).held = false) : (s.coils.get i).floor ≤ s.decideLock.setFrequency.drive.frequency := by
  rw [State.handOver_frequency h]
  have role : s.decideLock.rawDensities.drive.role = s.roleDecision.1 := congrArg (·.drive.role) (State.decideLock_good h)
  by_cases following : s.roleDecision.1 = .following
  · rw [State.frequencyByRole_following (role.trans following)]
    have matched : s.computeLockFloor ≤ s.leaderFrequency := by simpa using (decideRole_following following).2
    exact ((State.floor_le_lockFloor assigned).trans matched).trans_eq s.decideLock_leaderFrequency.symm
  · have chain : s.decideLock.rawDensities.drive.chainFloor = max s.decideLock.computeOwnFloor s.rightFloor :=
      congrArg (·.drive.chainFloor) (State.decideLock_good h)
    calc (s.coils.get i).floor = (s.decideLock.coils.get i).floor := (s.decideLock_floor i).symm
      _ ≤ s.decideLock.computeOwnFloor := State.floor_le_ownFloor (by simpa using assigned) free
      _ ≤ s.decideLock.rawDensities.drive.chainFloor := chain ▸ le_max_left _ _
      _ ≤ _ := State.chainFloor_le_frequencyByRole (role ▸ following)

end Frequency

/-! ### Steps 4 to 6: the densities (R94 to R96) -/

theorem State.setDensities_density (s : State) (i : CoilIx) : s.setDensities.drive.density.get i = s.densityOf i := by
  simp [State.setDensities]

@[simp] theorem State.setDensities_frequency (s : State) : s.setDensities.drive.frequency = s.drive.frequency := rfl

@[simp] theorem State.setDensities_handed (s : State) : s.setDensities.drive.handedFrequency = s.drive.frequency := rfl

@[simp] theorem State.setDensities_lockFloor (s : State) : s.setDensities.drive.lockFloor = s.drive.lockFloor := rfl

@[simp] theorem State.setDensities_chainFloor (s : State) : s.setDensities.drive.chainFloor = s.drive.chainFloor := rfl

@[simp] theorem State.setDensities_role (s : State) : s.setDensities.drive.role = s.drive.role := rfl

/-- The densities change the heating flag of a record alone. -/
theorem State.setDensities_coil (s : State) (i : CoilIx) :
    s.setDensities.coils.get i = { s.coils.get i with heating := decide (0 < s.densityOf i) } := by
  simp [State.setDensities]

theorem rawDensityOf_zero {power : Nat} (h : 0 < power) : rawDensityOf 0 power = 0 := by
  unfold rawDensityOf
  exact Nat.div_eq_of_lt (by omega)

theorem State.powerTaken_pos (s : State) (i : CoilIx) : 0 < s.powerTaken i := by
  unfold State.powerTaken
  split <;> omega

/-- R9, R94: a held coil is not driven. -/
theorem undrivable_of_held {c : Coil} (held : c.held = true) : undrivable (coilState c) = true := by
  unfold coilState
  cases c.fitted
  case false => rfl
  case true =>
    cases c.presence with
    | absent => rfl
    | nonferrous => rfl
    | pan =>
      simp only [held, if_true, Bool.not_true, Bool.false_eq_true, if_false]
      split_ifs <;> rfl

/-- R94: a density above 0 needs a grant, a coil that may be driven and a module in RUN. -/
theorem State.handOver_density {s : State} {i : CoilIx} (h : 0 < s.decideLock.setFrequency.densityOf i) :
    0 < s.alloc.grant.get i ∧ (s.decideLock.coils.get i).held = false ∧ s.sup.state = .run := by
  have power : s.decideLock.powerTaken i = s.powerTaken i := by simp [State.powerTaken]
  unfold State.densityOf at h
  split at h
  case isTrue => simp at h
  case isFalse free =>
    simp only [State.densityForced, State.setFrequency_coils, State.setFrequency_sup, State.decideLock_sup, Bool.or_eq_true,
      decide_eq_true_eq, not_or, Bool.not_eq_true] at free
    obtain ⟨⟨⟨drivable, -⟩, -⟩, run⟩ := free
    refine ⟨?_, ?_, by simpa using run⟩
    · by_contra none
      have none : s.alloc.grant.get i = 0 := by omega
      rw [State.setFrequency_rawDensity, State.decideLock_alloc, none, rawDensityOf_zero (State.powerTaken_pos _ i)] at h
      simp at h
    · cases held : (s.decideLock.coils.get i).held with
      | false => rfl
      | true =>
        simp [undrivable_of_held (by simpa using held)] at drivable

end Sys2Proof.Machine

/-! PROOFS. The frequency lies in its band and at or above the floor of every heated coil (R97, R98, R112; O59). -/

namespace Sys2Proof.Machine

open Sys2Proof

/-- The Drive Unit's figures that `State.FrequencySound` speaks of. -/
def Drive.figures (d : Drive) : Nat × Nat × Nat × Nat × LockRole :=
  (d.frequency, d.handedFrequency, d.lockFloor, d.chainFloor, d.role)

/-- Figures, floors and neighbours as before, and no density that was 0. -/
theorem State.FrequencySound.of_densities {s t : State} (h : s.FrequencySound) (figures : t.drive.figures = s.drive.figures)
    (coils : ∀ i, (t.coils.get i).floor = (s.coils.get i).floor ∧ (t.coils.get i).fitted = (s.coils.get i).fitted)
    (above : ∀ i, 0 < t.drive.density.get i → 0 < s.drive.density.get i)
    (setup : t.setup = s.setup ∧ t.setupGood = s.setupGood) (roster : t.link.roster = s.link.roster) : t.FrequencySound := by
  simp only [Drive.figures, Prod.mk.injEq] at figures
  obtain ⟨frequency, handed, lock, chain, role⟩ := figures
  exact
    { frequency := frequency ▸ h.frequency
      handed := handed ▸ h.handed
      lock_floor := lock ▸ h.lock_floor
      chain_floor := chain ▸ h.chain_floor
      floors := fun i => (coils i).1 ▸ h.floors i
      heated := fun i hi => by rw [(coils i).1, frequency]; exact h.heated i (above i hi)
      start_frequency := by rw [setup.1, setup.2]; exact h.start_frequency
      setup_floors := fun i hi => by rw [setup.1]; exact h.setup_floors i ((coils i).2 ▸ hi)
      heard := roster ▸ h.heard
      idle := by rw [setup.2, frequency, handed, role, lock]; exact h.idle }

theorem State.FrequencySound.cut {s : State} (h : s.FrequencySound) (cut counted : CoilIx → Bool) :
    (s.cutSet cut counted).FrequencySound :=
  h.of_densities rfl (fun i => by simp) (fun i hi => by cases hc : cut i <;> simp_all) ⟨rfl, rfl⟩ rfl

theorem State.FrequencySound.cutAll {s : State} (h : s.FrequencySound) : s.cutAll.FrequencySound := h.cut _ _

theorem State.FrequencySound.withCoils {s : State} (h : s.FrequencySound) {c : Eight Coil}
    (coils : ∀ i, (c.get i).floor = (s.coils.get i).floor ∧ (c.get i).fitted = (s.coils.get i).fitted) :
    State.FrequencySound { s with coils := c } := h.of_densities rfl coils (fun _ => id) ⟨rfl, rfl⟩ rfl

theorem State.FrequencySound.startDrive {s : State} (h : s.FrequencySound) : s.startDrive.FrequencySound :=
  h.of_densities rfl (fun i => by simp [State.startDrive]) (fun _ => id) ⟨rfl, rfl⟩ rfl

theorem State.FrequencySound.startSlot {s : State} (h : s.FrequencySound) : s.startSlot.FrequencySound := by
  unfold State.startSlot
  split_ifs
  · exact { h with }
  · exact h
  · exact h.startDrive

theorem State.FrequencySound.readCoils {s : State} (h : s.FrequencySound) (codes : Eight (BitVec 12)) :
    (s.readCoils codes).FrequencySound := by
  refine h.withCoils fun i => ?_
  rw [Eight.get_mapIx]
  split
  · unfold applyReading
    split
    · exact ⟨rfl, rfl⟩
    · split_ifs <;> exact ⟨rfl, rfl⟩
  · exact ⟨rfl, rfl⟩

theorem State.FrequencySound.readSink {s : State} (h : s.FrequencySound) (code : BitVec 12) :
    (s.readSink code).FrequencySound := by
  have sensed : State.FrequencySound { s with sense := applySink s.setup.sinkHard (temperatureOf code) s.sense } := { h with }
  unfold State.readSink
  dsimp only
  split
  · exact sensed.cutAll
  · exact sensed

theorem clampNat_inBand (n : Nat) : inBand (clampNat Config.lowestFrequency Config.highestFrequency n) := by
  unfold clampNat
  split
  case isTrue => decide
  case isFalse low =>
    split
    case isTrue => decide
    case isFalse high => exact ⟨not_lt.1 low, not_lt.1 high⟩

/-- R13: a floor from a probe result lies in the band. -/
theorem probeFloor_inBand (su : CoilSetup) (period : Option Nat) : inBand (probeFloor su period) := clampNat_inBand _

/-- R98: a result raises the frequency to the new floor of a heating coil, so no heated coil stays above it. -/
theorem State.FrequencySound.probed {s : State} (warm : s.Warm) (h : s.FrequencySound) (i : CoilIx) (k : Nat)
    (period : Option Nat) :
    State.FrequencySound
      (State.raiseFrequency i { s with coils := s.coils.update i (takeResult (s.setup.coils.get i) k period) }) := by
  have band := probeFloor_inBand (s.setup.coils.get i) period
  have own : ((s.coils.update i (takeResult (s.setup.coils.get i) k period)).get i).floor =
      probeFloor (s.setup.coils.get i) period := by simp [takeResult]
  have heating : ((s.coils.update i (takeResult (s.setup.coils.get i) k period)).get i).heating = (s.coils.get i).heating := by
    simp [takeResult]
  have other (j : CoilIx) (hj : j ≠ i) : (s.coils.update i (takeResult (s.setup.coils.get i) k period)).get j = s.coils.get j := by
    simp [hj]
  have floors (j : CoilIx) : inBand ((s.coils.update i (takeResult (s.setup.coils.get i) k period)).get j).floor := by
    by_cases hj : j = i
    · rw [hj, own]; exact band
    · rw [other j hj]; exact h.floors j
  have fitted (j : CoilIx) : ((s.coils.update i (takeResult (s.setup.coils.get i) k period)).get j).fitted = (s.coils.get j).fitted := by
    by_cases hj : j = i
    · subst hj; simp [takeResult]
    · rw [other j hj]
  unfold State.raiseFrequency
  dsimp only
  rw [own, heating]
  split
  case isTrue raise =>
    simp only [Bool.and_eq_true, decide_eq_true_eq] at raise
    have above : 0 < s.drive.density.get i := by simpa [warm.heating_iff i] using raise.1
    exact
      { h with
        frequency := band
        floors := floors
        heated := fun j hj => by
          by_cases hji : j = i
          · rw [hji]; exact own.le
          · dsimp only
            rw [other j hji]
            exact (h.heated j hj).trans raise.2.le
        setup_floors := fun j hj => h.setup_floors j (fitted j ▸ hj)
        idle := fun bad => by simp [warm.density_good above] at bad }
  case isFalse keep =>
    exact
      { h with
        floors := floors
        heated := fun j hj => by
          by_cases hji : j = i
          · subst hji
            dsimp only at hj ⊢
            rw [own]
            by_contra high
            exact keep (by simpa [warm.heating_iff j, hj] using high)
          · dsimp only
            rw [other j hji]
            exact h.heated j hj
        setup_floors := fun j hj => h.setup_floors j (fitted j ▸ hj) }

/-- The frequencies heard from the neighbours lie in the band (R158). -/
theorem decodeStatus_inBand {payload : List Byte} {st : Status} (h : decodeStatus payload = some st) :
    inBand st.frequency ∧ inBand st.chainFloor := by
  unfold decodeStatus at h
  split at h
  case isFalse => simp at h
  case isTrue =>
    dsimp only at h
    split at h
    case h_1 => simp at h
    case h_2 =>
      split at h
      case isFalse => simp at h
      case isTrue ranges =>
        simp only [Bool.and_eq_true, inRange, decide_eq_true_eq] at ranges
        obtain ⟨⟨⟨⟨⟨-, frequency⟩, chainFloor⟩, -⟩, -⟩, -⟩ := ranges
        obtain rfl := Option.some.inj h
        exact ⟨frequency, chainFloor⟩

theorem inBand_max {a b : Nat} (ha : inBand a) (hb : inBand b) : inBand (max a b) :=
  ⟨ha.1.trans (le_max_left _ _), max_le ha.2 hb.2⟩

section HandOver

variable {s : State}

theorem State.FrequencySound.rightFloor (h : s.FrequencySound) : inBand s.rightFloor := by
  have lowest : inBand Config.lowestFrequency := by decide
  have neighbour : ∀ st, (s.rosterOf (rightNeighbour s.sup.position)).content = some st → inBand st.chainFloor := by
    cases hq : rightNeighbour s.sup.position with
    | none => simp [State.rosterOf, RosterEntry.unheard]
    | some q => exact fun st hst => (h.heard q st hst).2
  unfold State.rightFloor
  dsimp only
  split
  · rename_i st _ hst
    split
    · exact neighbour st hst
    · exact neighbour st hst
    · exact neighbour st hst
    · exact lowest
  · exact lowest

theorem State.FrequencySound.computeLockFloor (h : s.FrequencySound) : inBand s.computeLockFloor := by
  have lowest : inBand Config.lowestFrequency := by decide
  have base := inBand_max lowest h.rightFloor
  exact ⟨base.1.trans (base_le_maxOver _ _ _), maxOver_le base.2 fun i _ => (h.floors i).2⟩

theorem computeOwnFloor_inBand (floors : ∀ i, inBand (s.coils.get i).floor) : inBand s.computeOwnFloor :=
  ⟨base_le_maxOver _ _ _, maxOver_le (by decide) fun i _ => (floors i).2⟩

/-- R109: the frequency of a leader that is heard. -/
theorem State.FrequencySound.leaderFrequency (h : s.FrequencySound) (fresh : s.leader.freshness = .fresh) :
    inBand s.leaderFrequency := by
  unfold State.leaderFrequency
  split
  case h_1 unheard => simp [RosterEntry.freshness, unheard] at fresh
  case h_2 st heard =>
    unfold State.leader State.rosterOf at heard
    split at heard
    · simp [RosterEntry.unheard] at heard
    · exact (h.heard _ st heard).1

/-- R97, R106, R109: the floors and the frequency that a hand-over decides after a good setup. -/
theorem State.FrequencySound.decided (h : s.FrequencySound) (good : s.setupGood = true) :
    inBand s.decideLock.drive.lockFloor ∧ inBand s.decideLock.drive.chainFloor ∧
      inBand s.decideLock.setFrequency.drive.frequency := by
  have own : inBand s.decideLock.computeOwnFloor := computeOwnFloor_inBand fun i => by simpa using h.floors i
  have chain : inBand (max s.decideLock.computeOwnFloor s.rightFloor) := inBand_max own h.rightFloor
  have lockEq : s.decideLock.drive.lockFloor = s.computeLockFloor := congrArg (·.drive.lockFloor) (State.decideLock_good good)
  have chainEq : s.decideLock.drive.chainFloor = max s.decideLock.computeOwnFloor s.rightFloor :=
    congrArg (·.drive.chainFloor) (State.decideLock_good good)
  have roleEq : s.decideLock.rawDensities.drive.role = s.roleDecision.1 := congrArg (·.drive.role) (State.decideLock_good good)
  refine ⟨lockEq ▸ h.computeLockFloor, chainEq ▸ chain, ?_⟩
  rw [State.handOver_frequency good]
  have chain' : inBand s.decideLock.rawDensities.drive.chainFloor := by
    change inBand s.decideLock.drive.chainFloor
    rw [chainEq]
    exact chain
  by_cases following : s.roleDecision.1 = .following
  · rw [State.frequencyByRole_following (roleEq.trans following)]
    change inBand s.decideLock.leaderFrequency
    rw [State.decideLock_leaderFrequency]
    exact h.leaderFrequency (decideRole_following following).1
  · exact ⟨chain'.1.trans (State.chainFloor_le_frequencyByRole (roleEq ▸ following)),
      State.frequencyByRole_le (roleEq ▸ following) chain'.2⟩

/-- R93 to R97: the hand-over leaves the frequency in its band and at or above the floor of every coil it drives. -/
theorem State.FrequencySound.handOver (warm : s.Warm) (h : s.FrequencySound)
    (granted : ∀ i, 0 < s.alloc.grant.get i → s.alloc.assigned.get i = true) :
    s.decideLock.setFrequency.setDensities.FrequencySound := by
  have frame := s.setDensities_frame
  have setup : s.decideLock.setFrequency.setDensities.setup = s.setup := by rw [frame]
  have good : s.decideLock.setFrequency.setDensities.setupGood = s.setupGood := by rw [frame]
  have link : s.decideLock.setFrequency.setDensities.link = s.link := by rw [frame]
  have coil (i : CoilIx) : (s.decideLock.setFrequency.setDensities.coils.get i).floor = (s.coils.get i).floor ∧
      (s.decideLock.setFrequency.setDensities.coils.get i).fitted = (s.coils.get i).fitted := by
    rw [State.setDensities_coil, State.setFrequency_coils, State.decideLock_coil]
    exact ⟨rfl, rfl⟩
  have lock := s.decideLock.setFrequency_lock
  have above (i : CoilIx) (hi : 0 < s.decideLock.setFrequency.setDensities.drive.density.get i) :
      s.setupGood = true ∧ (s.coils.get i).floor ≤ s.decideLock.setFrequency.drive.frequency := by
    obtain ⟨grant, free, run⟩ := State.handOver_density (State.setDensities_density _ i ▸ hi)
    have good := (warm.start.running_ready (.inr (.inl run))).1
    exact ⟨good, State.floor_le_frequency good (granted i grant) free⟩
  cases hg : s.setupGood with
  | true =>
    obtain ⟨lockBand, chainBand, frequency⟩ := h.decided hg
    exact
      { frequency := frequency
        handed := frequency
        lock_floor := by rw [State.setDensities_lockFloor, lock.2.2]; exact lockBand
        chain_floor := by rw [State.setDensities_chainFloor, lock.2.1]; exact chainBand
        floors := fun i => (coil i).1 ▸ h.floors i
        heated := fun i hi => by rw [(coil i).1]; exact (above i hi).2
        start_frequency := by rw [setup, good]; exact h.start_frequency
        setup_floors := fun i hi => by rw [setup]; exact h.setup_floors i ((coil i).2 ▸ hi)
        heard := link ▸ h.heard
        idle := fun bad => by simp [good, hg] at bad }
  | false =>
    have same : s.decideLock.setFrequency = s.rawDensities := by
      rw [State.decideLock_bad hg, State.setFrequency_bad hg]
    have frequency : s.decideLock.setFrequency.drive.frequency = s.drive.frequency := by rw [same]; rfl
    have chain : s.decideLock.setFrequency.drive.chainFloor = s.drive.chainFloor := by rw [same]; rfl
    have lockFloor : s.decideLock.setFrequency.drive.lockFloor = s.drive.lockFloor := by rw [same]; rfl
    have role : s.decideLock.setFrequency.drive.role = s.drive.role := by rw [same]; rfl
    obtain ⟨idleFrequency, _, idleRole, idleLock⟩ := h.idle hg
    exact
      { frequency := by rw [State.setDensities_frequency, frequency]; exact h.frequency
        handed := by rw [State.setDensities_handed, frequency]; exact h.frequency
        lock_floor := by rw [State.setDensities_lockFloor, lockFloor]; exact h.lock_floor
        chain_floor := by rw [State.setDensities_chainFloor, chain]; exact h.chain_floor
        floors := fun i => (coil i).1 ▸ h.floors i
        heated := fun i hi => by simp [hg] at above; exact absurd hi (by simp [above i])
        start_frequency := by rw [setup, good]; exact h.start_frequency
        setup_floors := fun i hi => by rw [setup]; exact h.setup_floors i ((coil i).2 ▸ hi)
        heard := link ▸ h.heard
        idle := fun _ => ⟨frequency.trans idleFrequency, frequency.trans idleFrequency, role.trans idleRole,
          lockFloor.trans idleLock⟩ }

end HandOver

/-! ### The setup (R175, R176) -/

theorem setupFaultCode_zero {image : List Byte} (h : setupFaultCode image = 0) : ∀ f ∈ judgedFields image, f.1 ≠ 0 → f.2 = true := by
  unfold setupFaultCode at h
  split at h
  case h_1 f found =>
    have failing := List.find?_some found
    have mem := List.mem_of_find?_eq_some found
    have numbered : ∀ f ∈ judgedFields image, f.1 ≠ 0 := by
      intro f hf
      simp only [judgedFields, List.mem_append, List.mem_flatMap] at hf
      rcases hf with (hf | ⟨k, -, hf⟩) | hf
      · simp only [moduleFields, List.mem_cons, List.not_mem_nil, or_false] at hf
        rcases hf with rfl | rfl | rfl | rfl | rfl | rfl | rfl | rfl | rfl | rfl | rfl | rfl | rfl | rfl <;> simp
      · unfold coilFields at hf
        dsimp only at hf
        split at hf
        · simp only [List.mem_cons, List.not_mem_nil, or_false] at hf
          rcases hf with rfl | rfl | rfl | rfl | rfl | rfl | rfl | rfl | rfl | rfl <;> simp
        · simp at hf
      · obtain rfl := List.mem_singleton.1 hf
        simp
    exact absurd h (numbered f mem)
  case h_2 none =>
    intro f hf _
    simpa using List.find?_eq_none.1 none f hf

/-- R160: the start frequency of a good image, and the floors of its fitted coils, lie in the band. -/
theorem readSetup_inBand {image : List Byte} (h : setupFaultCode image = 0) :
    inBand (readSetup image).startFrequency ∧
      ∀ k, ((readSetup image).coils.get k).fitted = true → inBand ((readSetup image).coils.get k).floor := by
  have passes := setupFaultCode_zero h
  constructor
  · have mem : (5, inRange 41 140 (readSetup image).startFrequency) ∈ judgedFields image := by simp [judgedFields, moduleFields]
    simpa [inRange, inBand, Config.lowestFrequency, Config.highestFrequency] using passes _ mem (by simp)
  · intro k fitted
    have same : (readSetup image).coils.get k = readCoilSetup image k := by simp [readSetup]
    rw [same] at fitted ⊢
    have mem : (19 + 10 * k.val, inRange 41 140 (readCoilSetup image k).floor) ∈ judgedFields image := by
      simp only [judgedFields, List.mem_append, List.mem_flatMap]
      exact .inl (.inr ⟨k, mem_allCoils k, by simp [coilFields, fitted]⟩)
    simpa [inRange, inBand, Config.lowestFrequency, Config.highestFrequency] using passes _ mem (by simp)

theorem State.FrequencySound.setupReadEnd {s : State} (warm : s.Warm) (h : s.FrequencySound) (image : List Byte) :
    (s.setupReadEnd image).FrequencySound := by
  unfold State.setupReadEnd
  split
  case isFalse => exact h
  case isTrue reading =>
    have loading := warm.start.reading_loading reading
    have zero := warm.density_zero (by simp [loading.1])
    dsimp only
    split
    case isFalse => exact { h with }
    case isTrue good =>
      obtain ⟨startBand, floorBand⟩ := readSetup_inBand good
      exact
        { h with
          frequency := startBand
          floors := fun i => by
            simp only [State.loadSetup, Eight.get_mapIx, loadCoil]
            split
            · exact floorBand i ‹_›
            · exact h.floors i
          heated := fun i hi => by simp [State.loadSetup, zero] at hi
          start_frequency := fun _ => startBand
          setup_floors := fun i hi => floorBand i (by simpa [State.loadSetup, loadCoil] using hi)
          idle := by simp [State.loadSetup] }

/-! ### Every move -/

theorem State.Move.keeps_frequencySound {W : Prop} {s t : State} (move : State.Move W s t) (warm : s.Warm)
    (h : s.FrequencySound) : t.FrequencySound := by
  cases move
  case advance => exact State.FrequencySound.startSlot { h with }
  case setMainsLost =>
    have lost : State.FrequencySound { s with timebase := { s.timebase with syntheticRun := 8, mainsLost := true } } := { h with }
    exact lost.cutAll
  case setLinkBlocked =>
    have blocked : State.FrequencySound { s with link := { s.link with blockedCount := 5, linkBlocked := true } } := { h with }
    exact blocked.cutAll
  case link l served => exact { h with heard := served.roster ▸ h.heard }
  case roster r heard =>
    refine { h with heard := fun q st hst => ?_ }
    rcases heard q st hst with before | ⟨payload, decoded⟩
    · exact h.heard q st before
    · exact decodeStatus_inBand decoded
  case append =>
    rw [State.appendSetting_frame]
    exact { h with }
  case assertLine u _ =>
    have asserted : State.FrequencySound { s with sup := u } := { h with }
    exact asserted.cutAll
  case coils c serviced => exact h.withCoils fun i => ⟨(serviced i).floor, (serviced i).fitted⟩
  case cut => exact h.cut _ _
  case overcurrent i =>
    refine (h.cut _ _).withCoils (s := s.cutCoil i) fun j => ?_
    rw [Eight.get_update]
    split <;> exact ⟨rfl, rfl⟩
  case readings codes sink => exact ((h.readCoils codes).readSink sink).cut _ _
  case probed i c _ => exact (h.probed warm i _ _).cut _ _
  case handOver l served granted =>
    have decided := h.handOver warm granted
    have link : s.decideLock.setFrequency.setDensities.link = s.link := by rw [s.setDensities_frame]
    have handed : State.FrequencySound { s.decideLock.setFrequency.setDensities with link := l } :=
      { decided with heard := served.roster ▸ h.heard }
    exact handed.startDrive
  case driveMatch count =>
    unfold State.driveMatch
    split
    · exact { h with }
    · exact h
  case closeHalfCycle =>
    refine State.FrequencySound.cut (s := { s with
      drive := { s.drive with driven := Eight.fill false, highGate := Eight.fill false, lowGate := Eight.fill false }
      sense := { s.sense with window := s.sense.window.mapIx s.closedWindow, acc := Eight.fill Accumulator.clear }
      coils := s.coils.mapIx fun i (c : Coil) => { c with liftSuspected := c.liftSuspected || s.liftAt i } }) ?_ _ _
    exact h.of_densities rfl (fun i => by simp) (fun _ => id) ⟨rfl, rfl⟩ rfl
  case enterStopped => exact { h.cutAll with }
  case enterSilent => exact { h.cutAll with }
  case enterQuiet =>
    have cut := h.cutAll
    have off := s.enterQuiet_from
    refine { cut with floors := fun i => ?_, heated := fun i hi => ?_, setup_floors := fun i hi => ?_ }
    · cases fitted : (s.coils.get i).fitted with
      | true => rw [off.coils i fitted]; exact h.setup_floors i fitted
      | false => rw [off.unfitted i fitted]; exact h.floors i
    · simp [off.off.density] at hi
    · refine h.setup_floors i ?_
      cases fitted : (s.coils.get i).fitted with
      | true => rfl
      | false => rw [off.unfitted i fitted] at hi; exact absurd hi (by simp [fitted])
  case reset cause =>
    unfold State.resetBy
    split
    · exact { h with }
    · constructor <;>
        simp [State.restart, State.reset, Drive.reset, Coil.reset, Setup.idle, Link.reset, RosterEntry.unheard, inBand,
          Config.lowestFrequency, Config.highestFrequency]
  case setupReadEnd image _ => exact h.setupReadEnd warm image
  all_goals exact { h with }

/-- Settles O59: every command is a sequence of moves; each keeps the frequency sound, and with it what the frequency takes for
granted of the drive. -/
theorem everyCommandKeepsFrequencySound : Obligations.EveryCommandKeepsFrequencySound := fun _ _ _ safe h step =>
  (exec_keeps (P := fun s => s.Warm ∧ s.FrequencySound)
    (fun _ _ move sound => ⟨move.keeps_warm sound.1, move.keeps_frequencySound sound.1 sound.2⟩) step ⟨safe.warm, h⟩).2

end Sys2Proof.Machine

/-! PROOFS. One command of its own, at the step and at start-up (R10, R172 to R176): the step, the device held in reset, the reset, its
end, and the end of the setup read. -/

namespace Sys2Proof.Machine

open Sys2Proof

/-- R172: a command of a device that is not held has its effect. -/
theorem live_running {s : State} (f : State → State) (h : s.sup.held = false) : live s f = .next (f s) := by simp [live, h]

theorem live_held {s : State} (f : State → State) (h : s.sup.held = true) : live s f = .next s := by simp [live, h]

/-- Settles O1: each half is the branch of `step` that the queue takes. -/
theorem stepTakesFrontCommand : Obligations.StepTakesFrontCommand :=
  ⟨fun _ _ _ => rfl, fun s empty => by simp [step, empty]⟩

/-- Settles O3: every command but the four has its effect through `live`. -/
theorem heldDeviceIgnoresCommands : Obligations.HeldDeviceIgnoresCommands := by
  intro c s held noReset noEnd noAssertion noRelease
  have ignored (f : State → State) : live s f = .next s := live_held f held
  cases c with
  | reset x => exact absurd rfl (noReset x)
  | endOfReset x => exact absurd rfl (noEnd x)
  | stopLineAssertion => exact absurd rfl noAssertion
  | stopLineRelease => exact absurd rfl noRelease
  | _ => exact ignored _

/-- R172: a cause during a reset adds to what that reset has seen. -/
theorem State.resetBy_of_held (cause : ResetCause) {s : State} (h : s.sup.held = true) :
    s.resetBy cause = { s with sup := s.sup.seeCause cause } := by
  simp [State.resetBy, h]

/-- R172: power-on goes before a supply dip, and that before the reset pin. -/
theorem Supervisor.seeCause_eq (cause : ResetCause) (u : Supervisor) :
    u.seeCause cause =
      { u with
        sawPowerOn := u.sawPowerOn || decide (cause = .powerOn)
        sawDip := u.sawDip || decide (cause = .supplyDip)
        resetCause :=
          if u.sawPowerOn = true ∨ cause = .powerOn then .powerOn
          else if u.sawDip = true ∨ cause = .supplyDip then .supplyDip
          else .resetPin } := by
  simp [Supervisor.seeCause, recordedCause]

/-- Settles O4: a first cause by `State.resetBy_sup`, a further one by the precedence of `Supervisor.seeCause_eq`. -/
theorem resetBeginsOrExtends : Obligations.ResetBeginsOrExtends := by
  intro cause s
  refine ⟨fun running => ?_, fun held => ?_⟩
  · rw [exec_reset, ← State.resetBy_sup cause running, State.resetBy_of_not_held cause running]
    rfl
  · rw [exec_reset, State.resetBy_of_held cause held, Supervisor.seeCause_eq]

/-- Settles O6: the fields of `State.endReset`; the command and address bytes are evaluated. -/
theorem endOfResetRecordsCauseAndStraps : Obligations.EndOfResetRecordsCauseAndStraps := by
  intro straps s held
  refine ⟨s.endReset straps, ?_, rfl, ?_, rfl⟩
  · simp [exec, execEndOfReset, held]
  · have reading : (s.endReset straps).sup.reading = true := rfl
    have sent : (Config.readCommand.flatMap fun b => bitsOf 8 b.toNat) =
        [false, false, false, false, false, false, true, true] ++ List.replicate 16 false := by decide
    rw [State.smoBits, reading, if_pos rfl, sent]

/-- R174 to R176: the end of a read in flight. -/
theorem State.setupReadEnd_reading (image : List Byte) {s : State} (h : s.sup.reading = true) :
    s.setupReadEnd image =
      if setupFaultCode image = 0 then
        State.loadSetup (readSetup image) { s with image := heldImage image, sup := { s.sup with reading := false } }
      else
        State.failSetup (setupFaultCode image) { s with image := heldImage image, sup := { s.sup with reading := false } } := by
  simp [State.setupReadEnd, h]

/-- Settles O8: the two judgements of `State.setupReadEnd_reading`. -/
theorem setupReadEndJudgesTheImage : Obligations.SetupReadEndJudgesTheImage := by
  intro image s running reading
  have judged : exec (.setupReadEnd image) s = .next (s.setupReadEnd image) := live_running _ running
  rw [judged, State.setupReadEnd_reading image reading]
  exact ⟨fun good => by rw [if_pos good]; rfl, fun bad => by rw [if_neg bad]; rfl⟩

/-! ### The reset values meet the invariants -/

theorem reset_coil (i : CoilIx) : State.reset.coils.get i = Coil.reset := Eight.get_fill _ i

theorem reset_density (i : CoilIx) : State.reset.drive.density.get i = 0 := Eight.get_fill _ i

theorem reset_not_driven (i : CoilIx) : State.reset.drive.driven.get i = false := Eight.get_fill _ i

theorem reset_highGate (i : CoilIx) : State.reset.drive.highGate.get i = false := Eight.get_fill _ i

theorem reset_lowGate (i : CoilIx) : State.reset.drive.lowGate.get i = false := Eight.get_fill _ i

/-- Nothing is driven and no sweep is in flight. -/
theorem reset_safe : State.reset.Safe where
  start := by constructor <;> decide
  sweep := by constructor <;> simp [State.reset, Probe.reset, Timebase.reset]
  drive :=
    { heating_iff := fun i => by rw [reset_coil, reset_density]; rfl
      density_range := fun i => by rw [reset_density]; omega
      density_run := fun i h => by rw [reset_density] at h; omega
      density_free := fun i h => by rw [reset_density] at h; omega
      density_state := fun i h => by rw [reset_density] at h; omega
      density_lift := fun i h => by rw [reset_density] at h; omega
      driven_density := fun i h => by simp [reset_not_driven] at h
      driven_slot := fun i h => by simp [reset_not_driven] at h
      high_driven := fun i h => by simp [reset_highGate] at h
      low_driven := fun i h => by simp [reset_lowGate] at h
      never_both := fun i _ => reset_lowGate i }

/-- Every table is empty. -/
theorem reset_tablesSound : State.reset.TablesSound := by constructor <;> decide

/-- No setting is cached and no program runs. -/
theorem reset_programsSound : State.reset.ProgramsSound := by
  constructor <;> simp [State.reset, Tracker.reset, Link.reset]

/-- Every frequency and floor is 41. -/
theorem reset_frequencySound : State.reset.FrequencySound where
  frequency := by decide
  handed := by decide
  lock_floor := by decide
  chain_floor := by decide
  floors := fun i => by rw [reset_coil]; decide
  heated := fun i h => by rw [reset_density] at h; omega
  start_frequency := by decide
  setup_floors := fun i fitted => by rw [reset_coil] at fitted; cases fitted
  heard := fun q st heard => by
    have unheard : State.reset.link.roster.get q = RosterEntry.unheard := Eight.get_fill _ q
    rw [unheard] at heard
    cases heard
  idle := by decide

/-- Settles O60, invariant by invariant. -/
theorem resetMeetsEveryInvariant : Obligations.ResetMeetsEveryInvariant :=
  ⟨reset_safe, reset_tablesSound, reset_programsSound, reset_frequencySound⟩

end Sys2Proof.Machine

/-! PROOFS. Commands of the timebase, the probe units and the sense unit (R1 to R5, R85, R88, R102, R115, R116, R123, R145): a crossing
while the class is unknown, the onsets of the inhibits, the end of a pulse and of a probe, a sample and a bus conversion. -/

namespace Sys2Proof.Machine

open Sys2Proof

/-! ### The timebase -/

@[simp] theorem State.enterStopped_timebase (s : State) : s.enterStopped.timebase = s.timebase := rfl

@[simp] theorem State.enterQuiet_timebase (s : State) : s.enterQuiet.timebase = s.timebase := rfl

/-- R166, R168: the stop line does not reach the timebase. -/
@[simp] theorem State.senseStop_timebase (s : State) : s.senseStop.timebase = s.timebase := by
  unfold State.senseStop State.leaveStopped
  split
  · split <;> simp
  · split
    · split <;> simp
    · rfl

@[simp] theorem State.reportBus_timebase (s : State) : s.reportBus.timebase = s.timebase := by
  unfold State.reportBus State.takeBusReport
  dsimp only
  split_ifs
  · rfl
  · rfl
  · exact State.senseStop_timebase _
  · rfl
  · rfl

/-- R85: the class of a mean half-cycle is known exactly between 7,500 and 11,000 us. -/
theorem classOf_eq_unknown_iff (mean : Nat) : classOf mean = .unknown ↔ mean < 7500 ∨ 11000 < mean := by
  by_cases slow : 9000 ≤ mean ∧ mean ≤ 11000
  · simp [classOf, inRange, slow]
    omega
  · by_cases fast : 7500 ≤ mean ∧ mean ≤ 8999
    · simp [classOf, inRange, slow, fast]
      omega
    · simp [classOf, inRange, slow, fast]
      omega

theorem classOf_known {mean : Nat} (low : 7500 ≤ mean) (high : mean ≤ 11000) :
    classOf mean = if 9000 ≤ mean then .hz50 else .hz60 := by
  by_cases slow : 9000 ≤ mean
  · simp [classOf, inRange, slow, high]
  · have top : mean ≤ 8999 := by omega
    simp [classOf, inRange, slow, low, top]

theorem State.measure_first (time : Nat) {s : State} (h : s.timebase.measCount = 0) :
    s.measure time = { s with timebase := { s.timebase with measCount := 1, measFirst := time, measPrev := time } } := by
  simp [State.measure, h]

theorem State.measure_noise {time : Nat} {s : State} (started : 0 < s.timebase.measCount)
    (soon : time < s.timebase.measPrev + 5000) : s.measure time = s := by
  simp [State.measure, started.ne', soon]

theorem State.measure_counted {time : Nat} {s : State} (started : 0 < s.timebase.measCount) (few : s.timebase.measCount < 7)
    (apart : s.timebase.measPrev + 5000 ≤ time) :
    s.measure time = { s with timebase := { s.timebase with measCount := s.timebase.measCount + 1, measPrev := time } } := by
  have counted : s.timebase.measCount + 1 < 8 := by omega
  simp [State.measure, started.ne', apart.not_gt, counted]

theorem State.measure_eighth {time : Nat} {s : State} (seven : s.timebase.measCount = 7)
    (apart : s.timebase.measPrev + 5000 ≤ time) :
    s.measure time =
      if classOf ((time - s.timebase.measFirst) / 7) = .unknown then
        { s with timebase := { s.timebase with measCount := 1, measFirst := time, measPrev := time } }
      else s.setClass time ((time - s.timebase.measFirst) / 7) := by
  simp [State.measure, seven, apart.not_gt]

/-- Settles O10: the five cases of `State.measure`. -/
theorem crossingMeasuresTheClass : Obligations.CrossingMeasuresTheClass := by
  intro time s running unknown
  have measured : exec (.zeroCrossing time) s = .next (s.measure time) := by
    rw [show exec (.zeroCrossing time) s = .next (s.zeroCrossing time) from live_running _ running, State.zeroCrossing, if_pos unknown]
  rw [measured]
  refine ⟨fun none => ?_, fun started soon => ?_, fun started few apart => ?_, fun seven apart outside => ?_,
    fun seven apart low high => ?_⟩
  · rw [State.measure_first time none]
  · rw [State.measure_noise started soon]
  · rw [State.measure_counted started few apart]
  · rw [State.measure_eighth seven apart, if_pos ((classOf_eq_unknown_iff _).2 outside)]
  · have known : ¬classOf ((time - s.timebase.measFirst) / 7) = .unknown := by rw [classOf_eq_unknown_iff]; omega
    refine ⟨_, rfl, ?_⟩
    rw [State.measure_eighth seven apart, if_neg known, State.setClass, State.reportBus_timebase, classOf_known low high]

/-! ### The onsets of the inhibits -/

/-- R102: a cut of the state with a flag of the Timebase set is a cut of the state before. -/
theorem State.setMainsLost_allCut (s : State) : s.AllCut s.setMainsLost :=
  have cut := ({ s with timebase := { s.timebase with syntheticRun := 8, mainsLost := true } } : State).cutAll_allCut
  ⟨cut.coils, cut.drive, cut.sense⟩

theorem State.setLinkBlocked_allCut (s : State) : s.AllCut s.setLinkBlocked :=
  have cut := ({ s with link := { s.link with blockedCount := 5, linkBlocked := true } } : State).cutAll_allCut
  ⟨cut.coils, cut.drive, cut.sense⟩

/-- Settles O13: each command at its last count, by the cut of its onset. -/
theorem inhibitOnsetsCutAllDrive : Obligations.InhibitOnsetsCutAllDrive := by
  intro s running
  refine ⟨fun eighth kept => ⟨s.setMainsLost, ?_, s.setMainsLost_allCut, rfl⟩,
    fun waiting lost fourth => ⟨s.setLinkBlocked, ?_, s.setLinkBlocked_allCut, rfl⟩, fun third lost => ?_⟩
  · have onset : s.mainsLostSet = s.setMainsLost := by simp [State.mainsLostSet, eighth, kept]
    rw [← onset]
    exact live_running _ running
  · have onset : s.linkBlockedSet = s.setLinkBlocked := by
      simp [State.linkBlockedSet, Link.starved, waiting, lost, fourth]
    rw [← onset]
    exact live_running _ running
  · have cleared : s.mainsLostClear = { s with timebase := { s.timebase with acceptedRun := 4, mainsLost := false } } := by
      simp [State.mainsLostClear, third, lost]
    rw [← cleared]
    exact live_running _ running

/-! ### The probe units -/

theorem Capture.endPulse_of_pulse {c : Capture} (time : Nat) (h : c.phase = .pulse) :
    c.endPulse time = { c with phase := .ringing, pulseEnd := time } := by simp [Capture.endPulse, h]

theorem Capture.endPulse_of_ne {c : Capture} (time : Nat) (h : c.phase ≠ .pulse) : c.endPulse time = c := by
  simp [Capture.endPulse, h]

@[simp] theorem Probe.capture_setCapture (p : Probe) (d : Fin 2) (c : Capture) : (p.setCapture d c).capture d = c := by
  fin_cases d <;> rfl

@[simp] theorem Probe.capture_setCapture_other (p : Probe) (d : Fin 2) (c : Capture) :
    (p.setCapture d c).capture (1 - d) = p.capture (1 - d) := by
  fin_cases d <;> rfl

@[simp] theorem Probe.setCapture_sweep (p : Probe) (d : Fin 2) (c : Capture) : (p.setCapture d c).sweep = p.sweep := by
  fin_cases d <;> rfl

/-- R5: a pair has ended when the probe on either detector and that on its partner have. -/
theorem Probe.pairEnded_iff (p : Probe) (d : Fin 2) :
    p.pairEnded = true ↔ (p.capture d).phase = .ended ∧ (p.capture (1 - d)).phase = .ended := by
  fin_cases d
  · simp [Probe.pairEnded, Probe.capture]
  · simp [Probe.pairEnded, Probe.capture, and_comm]

/-- R5: while a probe of the pair runs the sweep stands. -/
theorem State.advanceSweep_running (n : Nat) {s : State} (h : s.probe.pairEnded = false) : State.advanceSweep n s = s := by
  cases n with
  | zero => rfl
  | succ n =>
    unfold State.advanceSweep
    split
    · rfl
    · simp [h]

/-- R4, R5: a probe that ends before its partner's waits in its unit. -/
theorem State.endProbe_waiting {d : Fin 2} {s : State} (rings : (s.probe.capture d).phase = .ringing)
    (partner : (s.probe.capture (1 - d)).phase ≠ .ended) :
    s.endProbe d = { s with probe := s.probe.setCapture d { s.probe.capture d with phase := .ended } } := by
  have finished : (s.probe.capture d).finish = { s.probe.capture d with phase := .ended } := by simp [Capture.finish, rings]
  have waits (c : Capture) : (s.probe.setCapture d c).pairEnded = false := by
    rw [Bool.eq_false_iff, Ne, Probe.pairEnded_iff _ d, Probe.capture_setCapture_other]
    exact fun ended => partner ended.2
  rw [State.endProbe, finished, State.advanceSweep_running 4 (waits _)]

/-- Settles O19: the pulses by `Capture.endPulse`, the ends by `State.endProbe_waiting`. -/
theorem probesRingAndEnd : Obligations.ProbesRingAndEnd := by
  refine ⟨fun time rung s running pulse other => ?_, fun d s running rings partner => ?_⟩
  · have ended : rung = fun u => u.endPulse time := by
      funext u
      by_cases h : u.phase = .pulse
      · rw [pulse u h, Capture.endPulse_of_pulse time h]
      · rw [other u h, Capture.endPulse_of_ne time h]
    rw [ended]
    exact live_running _ running
  · rw [← State.endProbe_waiting rings partner]
    exact ⟨live_running _ running, live_running _ running⟩

/-! ### Samples and bus conversions -/

theorem mem_samplePoints (f : Nat) (k : Fin 8) : k.val * (drivePeriod f / 8) ∈ samplePoints f := by
  refine List.mem_map_of_mem ?_
  fin_cases k <;> simp

/-- R120: a sample neither saturated nor beyond the limit. -/
theorem overcurrentSample_eq_false {limit : Nat} {sample : BitVec 12} (low : -2048 < sample.toInt) (top : sample.toInt < 2047)
    (high : sample.toInt ≤ (limit : Int)) (deep : -(limit : Int) ≤ sample.toInt) : overcurrentSample limit sample = false := by
  have unsaturated : saturatedSample sample = false := by simp [saturatedSample, sampleValue, low.ne', top.ne]
  simp [overcurrentSample, unsaturated, sampleValue, high.not_gt, deep.not_gt]

theorem Eight.update_eq_set {α : Type} (a : Eight α) (i : Fin 8) (f : α → α) : a.update i f = a.set i (f (a.get i)) := by
  refine Eight.ext_get fun j => ?_
  rw [Eight.get_update, Eight.get_set]
  split
  · next h => rw [h]
  · rfl

/-- Settles O36: the sample is at a sample point and within the limit, so it is paired. -/
theorem currentSampleAddsAPair : Obligations.CurrentSampleAddsAPair := by
  intro i k sample s running driven flight low top high deep
  have point : (samplePoints s.drive.frequency).contains (k.val * (drivePeriod s.drive.frequency / 8)) = true :=
    List.contains_iff_mem.2 (mem_samplePoints _ k)
  have taken : exec (.currentSample i (k.val * (drivePeriod s.drive.frequency / 8)) sample) s =
      .next (s.currentSample i (k.val * (drivePeriod s.drive.frequency / 8)) sample) := live_running _ running
  rw [taken, State.currentSample, driven, flight, point, overcurrentSample_eq_false low top high deep, Eight.update_eq_set]
  simp [addPair, sampleValue, flight]

/-- R123: the bus run of a drive slot while it does not reach 64. -/
theorem State.watchBus_drive {v : Nat} {s : State} (slot : s.timebase.halfCycle ≠ 0)
    (below : v ≤ s.setup.busMax ∨ s.sense.busRun ≠ 63) :
    s.watchBus v =
      { s with
        sense :=
          { s.sense with
            busHigh := s.sense.busHigh || decide (s.setup.busMax < v)
            busRun := if s.setup.busMax < v then (if s.sense.busRun < 64 then s.sense.busRun + 1 else 64) else 0 } } := by
  have quiet : (decide (s.setup.busMax < v) && decide (s.sense.busRun = 63)) = false := by
    rcases below with low | run
    · simp [low.not_gt]
    · simp [run]
  simp [State.watchBus, State.driveSlot, slot, quiet, nextBusRun, satSucc]

/-- R123: slot 0 only marks a high bus. -/
theorem State.watchBus_slot0 (v : Nat) {s : State} (slot : s.timebase.halfCycle = 0) :
    s.watchBus v = { s with sense := { s.sense with busHigh := s.sense.busHigh || decide (s.setup.busMax < v) } } := by
  simp [State.watchBus, State.driveSlot, slot]

/-- Settles O38: the conversion is held, and `State.watchBus` follows where setup is good. -/
theorem busConversionIsHeldAndWatched : Obligations.BusConversionIsHeldAndWatched := by
  intro v s running
  have taken : exec (.busConversion v) s = .next (s.busConversion v) := live_running _ running
  rw [taken]
  refine ⟨fun bad => ?_, fun good slot => ?_, fun good slot below => ?_⟩
  · simp [State.busConversion, bad]
  · have watched := State.watchBus_slot0 v.toNat (s := { s with sense := { s.sense with bus := v.toNat } }) slot
    rw [State.busConversion, if_pos good, watched]
  · have watched := State.watchBus_drive (s := { s with sense := { s.sense with bus := v.toNat } }) slot below
    rw [State.busConversion, if_pos good, watched]

end Sys2Proof.Machine

/-! PROOFS. Commands of the line and of the receiver (R131 to R146, R170): the idle line, the end of a contention, the end of an own
frame, a position clash, and the frames that change little. -/

namespace Sys2Proof.Machine

open Sys2Proof

/-! ### The selection at an idle line (R143) -/

/-- R143: `a` is of a higher level than `b`, or of the same and of a lower kind number. -/
def QueueEntry.Outranks (a b : QueueEntry) : Prop :=
  b.level < a.level ∨ b.level = a.level ∧ a.key.kindNumber < b.key.kindNumber

/-- R143: `a`, the older one, goes before `b`. -/
def QueueEntry.Precedes (a b : QueueEntry) : Prop :=
  b.level < a.level ∨ b.level = a.level ∧ a.key.kindNumber ≤ b.key.kindNumber

theorem QueueEntry.Outranks.trans {a b c : QueueEntry} (h : a.Outranks b) (k : b.Outranks c) : a.Outranks c := by
  unfold QueueEntry.Outranks at *; omega

theorem QueueEntry.Outranks.trans_precedes {a b c : QueueEntry} (h : a.Outranks b) (k : b.Precedes c) : a.Outranks c := by
  unfold QueueEntry.Outranks QueueEntry.Precedes at *; omega

theorem betterEntry_cases (a b : QueueEntry) :
    (betterEntry a b = a ∧ a.Precedes b) ∨ (betterEntry a b = b ∧ b.Outranks a) := by
  unfold betterEntry QueueEntry.Precedes QueueEntry.Outranks
  split_ifs with below above kind
  · exact .inr ⟨rfl, .inl below⟩
  · exact .inl ⟨rfl, .inl above⟩
  · exact .inr ⟨rfl, by omega⟩
  · exact .inl ⟨rfl, by omega⟩

/-- R143: the entry chosen outranks the older ones and goes before the younger ones. -/
theorem foldl_betterEntry (e : QueueEntry) (es : List QueueEntry) :
    ∃ before after, e :: es = before ++ es.foldl betterEntry e :: after ∧
      (∀ x ∈ before, (es.foldl betterEntry e).Outranks x) ∧ ∀ x ∈ after, (es.foldl betterEntry e).Precedes x := by
  induction es using List.reverseRecOn with
  | nil => exact ⟨[], [], rfl, by simp, by simp⟩
  | append_singleton es y ih =>
    obtain ⟨before, after, split, older, younger⟩ := ih
    have extended : e :: (es ++ [y]) = before ++ es.foldl betterEntry e :: (after ++ [y]) := by
      rw [← List.cons_append, split]; simp
    rw [List.foldl_append, List.foldl_cons, List.foldl_nil, extended]
    rcases betterEntry_cases (es.foldl betterEntry e) y with ⟨kept, precedes⟩ | ⟨taken, outranks⟩
    · rw [kept]
      exact ⟨before, after ++ [y], rfl, older, List.forall_mem_append.2 ⟨younger, by simpa using precedes⟩⟩
    · rw [taken]
      refine ⟨before ++ es.foldl betterEntry e :: after, [], by simp, ?_, by simp⟩
      exact List.forall_mem_append.2 ⟨fun x hx => outranks.trans (older x hx),
        List.forall_mem_cons.2 ⟨outranks, fun x hx => outranks.trans_precedes (younger x hx)⟩⟩

/-- R133: a key that no other entry has marks one entry. -/
theorem markContending_apart {before after : List QueueEntry} {e : QueueEntry}
    (keys : ((before ++ e :: after).map fun x => x.key).Nodup) :
    markContending e.key (before ++ e :: after) = before ++ { e with contending := true } :: after := by
  have apart : ∀ x ∈ before ++ after, x.key ≠ e.key := by
    have cycled : ((e :: (before ++ after)).map fun x => x.key).Nodup :=
      (List.perm_middle.map _).nodup_iff.1 keys
    rw [List.map_cons, List.nodup_cons] at cycled
    exact fun x hx same => cycled.1 (same ▸ List.mem_map_of_mem hx)
  have unmarked (l : List QueueEntry) (h : ∀ x ∈ l, x.key ≠ e.key) :
      (l.map fun x => if x.key = e.key then { x with contending := true } else x) = l := by
    conv_rhs => rw [← List.map_id l]
    exact List.map_congr_left fun x hx => if_neg (h x hx)
  obtain ⟨front, back⟩ := List.forall_mem_append.1 apart
  simp [markContending, unmarked before front, unmarked after back]

/-- R133: of a queue in which none contends the selection starts an entry, or the line is idle. -/
theorem Link.quiet_of_idle {l : Link} (idle : ∀ e ∈ l.queue, e.contending = false) (sending : l.sending = none) :
    l.quiet = true := by
  simpa [Link.quiet, contendingEntry, sending] using idle

theorem filter_waiting {q : List QueueEntry} (idle : ∀ e ∈ q, e.contending = false) : (q.filter fun e => !e.contending) = q :=
  List.filter_eq_self.2 fun e he => by simp [idle e he]

theorem State.lineIdle_quiet {s : State} (live : s.sup.state ≠ .silent) (quiet : s.link.quiet = true) :
    s.lineIdle = { s with link := Link.startFrame { s.link with awaitsIdle := false } } := by
  have still : Link.quiet { s.link with awaitsIdle := false } = true := quiet
  simp [State.lineIdle, live, still]

/-- Settles O44: `foldl_betterEntry` is the selection of R143. -/
theorem lineIdleStartsTheMostUrgent : Obligations.LineIdleStartsTheMostUrgent := by
  intro s running live sending idle keys
  have taken : exec .lineIdle s = .next { s with link := Link.startFrame { s.link with awaitsIdle := false } } := by
    rw [← State.lineIdle_quiet live (Link.quiet_of_idle idle sending)]
    exact live_running _ running
  rw [taken]
  refine ⟨fun empty => ?_, fun waiting => ?_⟩
  · simp [Link.startFrame, selectEntry, empty]
  · obtain ⟨e, es, queue⟩ := List.exists_cons_of_ne_nil waiting
    obtain ⟨before, after, split, older, younger⟩ := foldl_betterEntry e es
    refine ⟨before, es.foldl betterEntry e, after, queue.trans split, older, younger, ?_⟩
    have selected : selectEntry s.link.queue = some (es.foldl betterEntry e) := by
      rw [selectEntry, filter_waiting idle, queue]
    rw [queue, split] at keys
    simp [Link.startFrame, selected]
    rw [queue, split, markContending_apart keys]

/-! ### The end of a contention (R134, R142) -/

section

variable {before after : List QueueEntry} {e : QueueEntry}

theorem contendingEntry_split (contends : e.contending = true) (waiting : ∀ x ∈ before, x.contending = false) :
    contendingEntry (before ++ e :: after) = some e := by
  have none : before.find? (fun x => x.contending) = none := List.find?_eq_none.2 fun x hx => by simp [waiting x hx]
  simp [contendingEntry, none, contends]

theorem returnToWaiting_idle {q : List QueueEntry} (idle : ∀ x ∈ q, x.contending = false) : returnToWaiting q = q := by
  rw [returnToWaiting, List.map_congr_left (g := id) fun x hx => by simp [idle x hx], List.map_id]

theorem returnToWaiting_split (contends : e.contending = true) (front : ∀ x ∈ before, x.contending = false)
    (back : ∀ x ∈ after, x.contending = false) :
    returnToWaiting (before ++ e :: after) =
      before ++ { e with contending := false, payload := e.replacement.getD e.payload, replacement := none } :: after := by
  have append : returnToWaiting (before ++ e :: after) = returnToWaiting before ++ returnToWaiting (e :: after) := List.map_append
  have cons : returnToWaiting (e :: after) =
      { e with contending := false, payload := e.replacement.getD e.payload, replacement := none } :: returnToWaiting after := by
    simp [returnToWaiting, contends]
  rw [append, cons, returnToWaiting_idle front, returnToWaiting_idle back]

theorem filter_waiting_split (contends : e.contending = true) (front : ∀ x ∈ before, x.contending = false)
    (back : ∀ x ∈ after, x.contending = false) :
    ((before ++ e :: after).filter fun x => !x.contending) = before ++ after := by
  rw [List.filter_append, List.filter_cons_of_neg (by simp [contends]), filter_waiting front, filter_waiting back]

end

/-- Settles O45: both commands find the one entry that contends. -/
theorem contentionEndsForTheEntry : Obligations.ContentionEndsForTheEntry := by
  intro before after e s running queue contends waiting
  obtain ⟨front, back⟩ := List.forall_mem_append.1 waiting
  have found : contendingEntry s.link.queue = some e := by rw [queue]; exact contendingEntry_split contends front
  have lost : exec .contentionLost s = .next s.contentionLost := live_running _ running
  have won : exec .contentionWon s = .next s.contentionWon := live_running _ running
  rw [lost, won, State.contentionLost, State.contentionWon, found, queue]
  refine ⟨?_, ?_⟩
  · rw [returnToWaiting_split contends front back]
    rfl
  · rw [filter_waiting_split contends front back]
    cases h : e.replacement <;> simp [replacementEntry, sentFrameOf, h]

/-! ### The end of an own frame (R136, R137) -/

/-- R149: a link count rises and stays at 255. -/
theorem bump_eq (n : Nat) : bump n = if n < 255 then n + 1 else 255 := rfl

/-- R136: the acknowledge slot sets the unheard streak, and ALONE with the fifth unheard frame. -/
theorem Link.readAcknowledge_eq (acknowledged : Bool) (l : Link) :
    l.readAcknowledge acknowledged =
      { l with
        unheard := if acknowledged then 0 else if l.unheard < 255 then l.unheard + 1 else 255
        alone := if acknowledged then false else l.alone || decide (l.unheard = 4)
        interval := if acknowledged = false ∧ l.unheard = 4 then 0 else l.interval } := by
  cases acknowledged
  case true => simp [Link.readAcknowledge]
  case false => by_cases fifth : l.unheard = 4 <;> simp [Link.readAcknowledge, Link.setAlone, bump_eq, fifth]

/-- Settles O47: the two slots of `Link.endFrame`, and ALONE at the fifth unheard frame. -/
theorem ownFrameEndReadsBothSlots : Obligations.OwnFrameEndReadsBothSlots := by
  intro acknowledged rejected s running
  refine ⟨fun sending => ?_, fun fourth => ?_⟩
  · obtain ⟨frame, onLine⟩ := Option.ne_none_iff_exists'.1 sending
    have taken : exec (.ownFrameEnd acknowledged rejected) s = .next (s.ownFrameEnd acknowledged rejected) :=
      live_running _ running
    rw [taken, State.ownFrameEnd, onLine]
    cases rejected <;> simp [Link.endFrame, Link.readAcknowledge_eq, Link.readReject, bump_eq]
  · have alone : s.aloneSet = { s with link := { s.link with unheard := 5, alone := true, interval := 0 } } := by
      simp [State.aloneSet, fourth, Link.setAlone]
    rw [← alone]
    exact live_running _ running

/-! ### Frames heard (R138 to R140, R146) -/

theorem State.receives_of {s : State} (live : s.sup.state ≠ .silent) (idle : s.link.awaitsIdle = false) : s.receives = true :=
  s.receives_eq_true.2 ⟨live, idle⟩

theorem State.not_receives_of {s : State} (h : s.sup.state = .silent ∨ s.link.awaitsIdle = true) : s.receives = false := by
  rcases h with silent | waits
  · simp [State.receives, silent]
  · simp [State.receives, waits]

theorem modulePosition_eq {source : LinkPos} {q : Position} (h : q.val = source.val) : modulePosition source = some q := by
  have module : source.val < 8 := h ▸ q.isLt
  rw [modulePosition, dif_pos module]
  exact congrArg some (Fin.ext h.symm)

theorem modulePosition_ne {source : LinkPos} {p : Position} (h : source.val ≠ p.val) : modulePosition source ≠ some p := by
  unfold modulePosition
  split
  · exact fun same => h (congrArg Fin.val (Option.some.inj same))
  · simp

/-- R138: a whole frame is that frame. -/
theorem State.receiveLine_whole {bits : List Bool} {s : State} {kind : BitVec 4} {source : LinkPos} {payload : List Byte}
    (heard : s.receives = true) (whole : receiveBits bits = .whole kind source payload) :
    s.receiveLine bits = s.takeFrame (frameKind kind) source payload := by
  simp [State.receiveLine, heard, whole]

theorem State.receiveLine_violation {bits : List Bool} {s : State} (heard : s.receives = true)
    (violated : receiveBits bits = .violation) : s.receiveLine bits = s.violateFiller := by
  simp [State.receiveLine, heard, violated]

theorem State.receiveLine_wrongCheck {bits : List Bool} {s : State} (heard : s.receives = true)
    (wrong : receiveBits bits = .wrongCheck) : s.receiveLine bits = s.markSlots false true := by
  simp [State.receiveLine, heard, wrong]

/-- R139: a frame of a kind the table ignores is acknowledged whatever its payload. -/
theorem State.takeFrame_ignored_payload (source : LinkPos) (payload : List Byte) (s : State) :
    s.takeFrame .ignored source payload = s.takeFrame .ignored source [] := rfl

/-- R139: the command of a whole frame, by its kind number. -/
theorem exec_wholeFrame (kind : BitVec 4) (source : LinkPos) (payload : List Byte) (s : State) :
    exec
        (if kind = 1 then .panelState source payload
        else if kind = 2 then .panSetting source payload
        else if kind = 3 then .fragment source payload
        else if kind = 4 then .moduleStatus source payload
        else if kind = 5 then .panNotice source payload
        else .ignoredKindFrame kind source) s =
      live s (State.takeFrame (frameKind kind) source payload) := by
  split_ifs with k1 k2 k3 k4 k5
  · subst k1; rfl
  · subst k2; rfl
  · subst k3; rfl
  · subst k4; rfl
  · subst k5; rfl
  · have ignored : frameKind kind = .ignored := by
      revert kind
      decide
    rw [ignored]
    change live s (State.takeFrame (frameKind kind) source []) = live s (State.takeFrame .ignored source [])
    rw [ignored]

/-- R138: bits that are not received end the idle line and nothing else. -/
theorem exec_passed {s : State} (running : s.sup.held = false) (deaf : s.receives = false) {c : Instr} {bits : List Bool}
    {source : LinkPos} {payload : List Byte} {kind : BitVec 4}
    (frame : c = .frameReject bits ∨ c = .panelState source payload ∨ c = .panSetting source payload ∨
      c = .fragment source payload ∨ c = .moduleStatus source payload ∨ c = .panNotice source payload ∨
      c = .ignoredKindFrame kind source ∨ c = .positionClash) :
    exec c s = .next s.passFrame := by
  have passed (k : FrameKind) (p : List Byte) : live s (State.takeFrame k source p) = .next s.passFrame := by
    rw [live_running _ running, State.takeFrame_passed k source p deaf]
  rcases frame with rfl | rfl | rfl | rfl | rfl | rfl | rfl | rfl
  · rw [← State.receiveLine_passed bits deaf]
    exact live_running _ running
  · exact passed _ _
  · exact passed _ _
  · exact passed _ _
  · exact passed _ _
  · exact passed _ _
  · exact passed _ _
  · have pass : s.positionClash = s.passFrame := by simp [State.positionClash, deaf]
    rw [← pass]
    exact live_running _ running

/-- Settles O48: what the receiver makes of the bits, and that a deaf receiver passes every frame. -/
theorem rejectedFrameDrivesItsSlot : Obligations.RejectedFrameDrivesItsSlot := by
  intro bits s running
  have taken : exec (.frameReject bits) s = .next (s.receiveLine bits) := live_running _ running
  refine ⟨fun live idle => ?_, fun deaf source payload kind c frame =>
    exec_passed running (State.not_receives_of deaf) frame⟩
  have heard := State.receives_of live idle
  refine ⟨fun violated => ?_, fun wrong => ?_, fun kind source payload whole => ?_⟩
  · rw [taken, State.receiveLine_violation heard violated]
    rfl
  · rw [taken, State.receiveLine_wrongCheck heard wrong]
    rfl
  · rw [exec_wholeFrame, live_running _ running, taken, State.receiveLine_whole heard whole]

/-- Settles O51: a status of another position is stored in the roster. -/
theorem statusIsStoredInTheRoster : Obligations.StatusIsStoredInTheRoster := by
  intro source q payload st s running live idle position other decoded
  have source_eq : modulePosition source = some q := modulePosition_eq position
  have foreign : modulePosition source ≠ some s.sup.position := fun own => other (Option.some.inj (source_eq.symm.trans own))
  have taken : exec (.moduleStatus source payload) s = .next (s.takeFrame .moduleStatus source payload) := live_running _ running
  rw [taken, State.takeFrame_received _ _ _ (State.receives_of live idle) foreign]
  simp [State.handleFrame, source_eq, State.receiveStatus, decoded, State.storeStatus, State.markSlots]

/-- Settles O52: a kind that no row of R139 handles leaves the state as the slots marked it. -/
theorem noticesAndIgnoredKindsAreAcknowledged : Obligations.NoticesAndIgnoredKindsAreAcknowledged := by
  intro source payload kind s running live idle other ignored
  have foreign : modulePosition source ≠ some s.sup.position := modulePosition_ne other
  have heard := State.receives_of live idle
  have kind_eq : frameKind kind = .ignored := by
    revert kind
    decide
  have notice : exec (.panNotice source payload) s = .next (s.takeFrame .panNotice source payload) := live_running _ running
  have frame : exec (.ignoredKindFrame kind source) s = .next (s.takeFrame .ignored source []) := by
    rw [← kind_eq]
    exact live_running _ running
  rw [notice, frame, State.takeFrame_received _ _ _ heard foreign, State.takeFrame_received _ _ _ heard foreign]
  exact ⟨rfl, rfl⟩

/-! ### A position clash (R135, R140, R170) -/

/-- R170: what SILENT entry leaves, besides the tables and the figures. -/
theorem State.enterSilent_allCut (s : State) : s.AllCut s.enterSilent :=
  ⟨s.cutAll_allCut.coils, s.cutAll_allCut.drive, s.cutAll_allCut.sense⟩

/-- R170: programs and shares leave the frozen tables. -/
theorem State.enterSilent_tracker (s : State) :
    s.enterSilent.tracker =
      { s.tracker with
        pans := s.tracker.pans.map fun f => { f with program := none, share := 0 }
        lifted := s.tracker.lifted.map fun e => { e with program := none } } := by
  simp [State.enterSilent, State.dropPrograms, State.zeroFigures]

theorem State.reportClash_loading {s : State} (h : s.sup.state = .loading) : s.reportClash = s := by
  simp [State.reportClash, h]

theorem State.reportClash_silences {s : State} (loaded : s.sup.state ≠ .loading) (live : s.sup.state ≠ .silent) :
    s.reportClash = s.enterSilent := by
  unfold State.reportClash
  split
  · next h => exact absurd h loaded
  · next h => exact absurd h live
  · rfl

/-- Settles O46: both commands mark the link and report the clash; outside LOADING the report is SILENT entry. -/
theorem positionClashSilencesTheModule : Obligations.PositionClashSilencesTheModule := by
  intro c s running live cause
  obtain ⟨l, taken, marked⟩ : ∃ l, exec c s = .next (State.reportClash { s with link := l }) ∧
      l = { s.link with
        sending := l.sending, lineIdle := l.lineIdle, ackDriven := l.ackDriven, rejectDriven := l.rejectDriven } := by
    rcases cause with ⟨rfl, idle⟩ | ⟨rfl, sending⟩
    · refine ⟨(s.markSlots true false).link, ?_, rfl⟩
      have clash : s.positionClash = (s.markSlots true false).reportClash := by
        simp [State.positionClash, State.receives_of live idle]
      exact (live_running _ running).trans (congrArg _ clash)
    · refine ⟨{ s.link with sending := none }, ?_, rfl⟩
      obtain ⟨frame, onLine⟩ := Option.ne_none_iff_exists'.1 sending
      have collided : s.collision = State.reportClash { s with link := { s.link with sending := none } } := by
        simp [State.collision, onLine]
      exact (live_running _ running).trans (congrArg _ collided)
  refine ⟨_, taken, fun loading => ?_, fun loaded => ?_⟩
  · rw [State.reportClash_loading (s := { s with link := l }) loading]
    exact congrArg (fun m => { s with link := m }) marked
  · rw [State.reportClash_silences (s := { s with link := l }) loaded live]
    have cut := State.enterSilent_allCut { s with link := l }
    refine ⟨⟨cut.coils, cut.drive, cut.sense⟩, rfl, ?_, rfl, rfl, rfl, rfl, rfl,
      State.enterSilent_tracker { s with link := l }, ?_, ?_, rfl⟩
    · simp [State.stopAsserted, State.ownStop]
    · exact (congrArg (fun m : Link => m.roster) marked :)
    · exact (congrArg (fun m : Link => m.peers) marked :)

end Sys2Proof.Machine

/-! PROOFS. The stop line and OVERVOLT (R103, R123, R166, R169): a cut of what is already cut adds nothing, so that the entry of STOPPED
that follows a cut leaves what it would have left without it. -/

namespace Sys2Proof.Machine

open Sys2Proof

variable {s t u : State}

theorem State.cutLossOf_of_density {i : CoilIx} (h : s.drive.density.get i = 0) : s.cutLossOf i = 0 := by
  simp [State.cutLossOf, h]

/-- R96: a coil of density 0 has nothing to lose. -/
theorem State.AllCut.cutLossOf (h : s.AllCut u) (i : CoilIx) : u.cutLossOf i = 0 :=
  State.cutLossOf_of_density (by rw [h.driveOff.density, Eight.get_fill])

/-- R102, R103: a second cut adds nothing to the first. -/
theorem State.AllCut.trans (first : s.AllCut u) (second : u.AllCut t) : s.AllCut t where
  coils := by
    rw [second.coils, first.coils]
    exact Eight.ext_get fun i => by simp
  drive := by
    have nothing : (Eight.ofFn u.cutLossOf).sum = 0 := by
      rw [Eight.sum_eq]
      simp [first.cutLossOf]
    rw [second.drive, nothing, first.drive]
    simp
  sense := by rw [second.sense, first.sense]

/-- R166: STOPPED entry after a cut is STOPPED entry. -/
theorem State.StoppedFrom.of_cut (cut : s.AllCut u) (rest : u = { s with sup := u.sup, coils := u.coils, drive := u.drive, sense := u.sense })
    (h : u.StoppedFrom t) : s.StoppedFrom t where
  cut := cut.trans h.cut
  probe := by rw [h.probe, rest]
  cache := h.cache
  pans := by rw [h.pans, rest]
  lifted := by rw [h.lifted, rest]
  serial := by rw [h.serial, rest]
  figures := h.figures
  state := h.state
  queue := by
    obtain ⟨st, formed, queue⟩ := h.queue
    exact ⟨st, formed, by rw [queue, rest]⟩
  link := by rw [h.link, rest]; rfl
  rest := by rw [h.rest, rest]

/-- R166: an asserted line takes QUIET and RUN to STOPPED. -/
theorem State.senseStop_enters (asserted : s.stopAsserted = true) (h : s.sup.state = .quiet ∨ s.sup.state = .run) :
    s.senseStop = s.enterStopped := by
  rcases h with quiet | run
  · simp [State.senseStop, asserted, quiet]
  · simp [State.senseStop, asserted, run]

theorem State.senseStop_stays (asserted : s.stopAsserted = true) (h : s.sup.state = .stopped) :
    s.senseStop = { s with sup := { s.sup with stopCause := s.causeNow } } := by
  simp [State.senseStop, asserted, h]

theorem State.senseStop_ignores (asserted : s.stopAsserted = true)
    (h : s.sup.state = .loading ∨ s.sup.state = .setupFault ∨ s.sup.state = .silent) : s.senseStop = s := by
  rcases h with loading | fault | silent
  · simp [State.senseStop, asserted, loading]
  · simp [State.senseStop, asserted, fault]
  · simp [State.senseStop, asserted, silent]

/-- R103: the Drive Unit cuts all drive, whatever else of the Supervisor changes. -/
theorem State.cutAll_withSup (x : Supervisor) (s : State) : s.AllCut (State.cutAll { s with sup := x }) :=
  have cut := State.cutAll_allCut { s with sup := x }
  ⟨cut.coils, cut.drive, cut.sense⟩

/-- R103, R166: the line asserted, by a change `x` of the Supervisor, takes QUIET and RUN to STOPPED. -/
theorem State.asserted_enters {x : Supervisor} (asserted : State.stopAsserted { s with sup := x } = true)
    (h : x.state = .quiet ∨ x.state = .run) :
    s.StoppedFrom (State.senseStop (State.cutAll { s with sup := x })) ∧
      (State.senseStop (State.cutAll { s with sup := x })).sup =
        { x with state := .stopped, stopCause := if x.overvoltageDrive then .ownOvervolt else .external } := by
  rw [State.senseStop_enters (s := State.cutAll { s with sup := x }) asserted h]
  exact ⟨(State.enterStopped_from _).of_cut (s.cutAll_withSup x) rfl, rfl⟩

/-- R166: in STOPPED the cause follows the module's own drive of the line. -/
theorem State.asserted_stays {x : Supervisor} (asserted : State.stopAsserted { s with sup := x } = true) (h : x.state = .stopped) :
    State.senseStop (State.cutAll { s with sup := x }) =
      { State.cutAll { s with sup := x } with
        sup := { x with stopCause := if x.overvoltageDrive then .ownOvervolt else .external } } := by
  rw [State.senseStop_stays (s := State.cutAll { s with sup := x }) asserted h]
  rfl

theorem State.asserted_ignored {x : Supervisor} (asserted : State.stopAsserted { s with sup := x } = true)
    (h : x.state = .loading ∨ x.state = .setupFault ∨ x.state = .silent) :
    State.senseStop (State.cutAll { s with sup := x }) = State.cutAll { s with sup := x } :=
  State.senseStop_ignores (s := State.cutAll { s with sup := x }) asserted h

/-- Settles O41, by the module state. -/
theorem stopLineAssertionEntersStopped : Obligations.StopLineAssertionEntersStopped := by
  intro s running
  have taken : exec .stopLineAssertion s = .next s.stopLineAssertion := by simp [exec, execStopLineAssertion, running]
  have asserted : State.stopAsserted { s with sup := { s.sup with stopExternal := true } } = true := rfl
  have cut := s.cutAll_withSup { s.sup with stopExternal := true }
  rw [taken]
  refine ⟨fun driving => ?_, fun stopped => ?_, fun other => ?_⟩
  · obtain ⟨entered, sup⟩ := State.asserted_enters asserted driving
    exact ⟨_, rfl, entered, sup⟩
  · refine ⟨_, rfl, ?_, ?_⟩
    · rw [State.stopLineAssertion, State.asserted_stays asserted stopped]
      exact ⟨cut.coils, cut.drive, cut.sense⟩
    · rw [State.stopLineAssertion, State.asserted_stays asserted stopped]
      rfl
  · refine ⟨_, rfl, ?_, ?_⟩
    · rw [State.stopLineAssertion, State.asserted_ignored asserted other]
      exact cut
    · rw [State.stopLineAssertion, State.asserted_ignored asserted other]
      rfl

/-- R123: the 64th conversion above V_max in a row. -/
theorem State.busConversion_overvolt {v : BitVec 10} (good : s.setupGood = true) (slot : s.timebase.halfCycle ≠ 0)
    (above : s.setup.busMax < v.toNat) (run : s.sense.busRun = 63) :
    s.busConversion v =
      State.raiseOvervolt { s with sense := { s.sense with bus := v.toNat, busHigh := true, busRun := 64 } } := by
  simp [State.busConversion, State.watchBus, State.driveSlot, good, slot, above, run, nextBusRun, satSucc]

/-- Settles O39: OVERVOLT is an assertion of the line by the module itself. -/
theorem overvoltStopsTheModule : Obligations.OvervoltStopsTheModule := by
  intro v s u running good slot above run held
  have taken : exec (.busConversion v) s = .next u.raiseOvervolt := by
    rw [held, ← State.busConversion_overvolt good slot above run]
    exact live_running _ running
  have sup : u.sup = s.sup := by rw [held]
  have asserted : State.stopAsserted { u with sup := { u.sup with overvoltageDrive := true, clearRun := 0 } } = true := by
    simp [State.stopAsserted, State.ownStop]
  rw [taken, ← sup]
  refine ⟨fun driving => ?_, fun stopped => ?_⟩
  · obtain ⟨entered, left⟩ := State.asserted_enters asserted driving
    refine ⟨_, rfl, entered, ?_, left⟩
    rw [State.stopAsserted_eq, State.raiseOvervolt, left]
    simp
  · have cut := u.cutAll_withSup { u.sup with overvoltageDrive := true, clearRun := 0 }
    refine ⟨_, rfl, ?_, ?_, ?_⟩
    all_goals rw [State.raiseOvervolt, State.asserted_stays asserted stopped]
    · exact ⟨cut.coils, cut.drive, cut.sense⟩
    · simp [State.stopAsserted, State.ownStop]
    · rfl

end Sys2Proof.Machine

/-! PROOFS. Programs and settings (R52, R55, R56, R58, R101): the expiry of a setting, the end of a step, and the second tick at which a
program without loops is done. -/

namespace Sys2Proof.Machine

open Sys2Proof

/-! ### The withdrawal of coils without a target (R101) -/

/-- R101: what the withdrawal leaves of a state `s` whose drive, records and accumulators reached `u` unchanged. -/
theorem State.withdrawUntargeted_cutOf {s u : State} (coils : u.coils = s.coils) (drive : u.drive = s.drive)
    (sense : u.sense = s.sense) : s.CutOf u.withdrawUntargeted (s.untargeted u.withdrawUntargeted) fun _ => false := by
  have same : s.untargeted u.withdrawUntargeted = fun i => decide (0 < u.drive.density.get i) && !u.targeted i := by
    funext i
    rw [drive]
    rfl
  have cut := State.cutSet_cutOf (fun i => 0 < u.drive.density.get i && !u.targeted i) (fun _ => false) u
  rw [same]
  exact
    { off := cut.off
      kept := by rw [← coils, ← drive, ← sense]; exact cut.kept
      rest := by
        have rest := cut.rest
        simp only [Bool.and_false, Bool.false_eq_true, if_false] at rest ⊢
        rw [← drive]
        exact rest }

/-- R101: besides the drive the withdrawal reaches the heating flags and the accumulators. -/
theorem State.withdrawUntargeted_coils (u : State) :
    u.withdrawUntargeted.coils = u.coils.mapIx fun i c => { c with heating := (u.withdrawUntargeted.coils.get i).heating } :=
  Eight.ext_get fun i => by simp [State.withdrawUntargeted, State.cutSet]

theorem State.withdrawUntargeted_sense (u : State) :
    u.withdrawUntargeted.sense = { u.sense with acc := u.withdrawUntargeted.sense.acc } := rfl

theorem State.withdrawUntargeted_frame (u : State) :
    u.withdrawUntargeted =
      { u with coils := u.withdrawUntargeted.coils, drive := u.withdrawUntargeted.drive, sense := u.withdrawUntargeted.sense } := rfl

/-- R101: a coil keeps its density exactly where a target is left to it. -/
theorem State.withdrawUntargeted_density (u : State) (i : CoilIx) :
    u.withdrawUntargeted.drive.density.get i = if u.withdrawUntargeted.targeted i = true then u.drive.density.get i else 0 := by
  have same : u.withdrawUntargeted.targeted i = u.targeted i := rfl
  rw [same]
  by_cases targeted : u.targeted i = true
  · simp [State.withdrawUntargeted, State.cutSet, targeted]
  · simp [State.withdrawUntargeted, State.cutSet, targeted]

/-! ### CACHE_EXPIRY -/

theorem expiring_of {cache : List CacheEntry} {tag : Tag} {e : CacheEntry} (cached : cacheEntry cache tag = some e)
    (last : e.age = 2) : expiring cache tag = true := by
  simp [expiring, cached, last]

/-- Settles O31: the entry leaves with its programs, then coils without a target are withdrawn. -/
theorem cacheExpiryRemovesTheProgram : Obligations.CacheExpiryRemovesTheProgram := by
  intro tag e s running run cached last
  have expired : s.cacheExpiry tag = (s.expire fun t => t = tag).withdrawUntargeted := by
    simp [State.cacheExpiry, run, expiring_of cached last]
  have taken : exec (.cacheExpiry tag) s = .next (s.expire fun t => t = tag).withdrawUntargeted := by
    rw [← expired]
    exact live_running _ running
  exact ⟨_, taken, rfl, by simp [State.expire, removePrograms], State.withdrawUntargeted_density _,
    State.withdrawUntargeted_cutOf rfl rfl rfl, State.withdrawUntargeted_coils _, rfl, rfl⟩

/-! ### STEP_END -/

/-- R55, R56: the tick that ends a step. -/
theorem tickProgram_ends {steps : List Step} {p : Program} (h : stepEnds steps p = true) :
    tickProgram steps p = endStep steps { p with remaining := 0 } := by
  have parts := h
  simp only [stepEnds, Bool.and_eq_true, Bool.not_eq_true', decide_eq_true_eq] at parts
  simp [tickProgram, h, parts.1.1, parts.1.2.ne']

theorem endStep_loop {steps : List Step} {p : Program} {l : StepLoop} (loop : (stepAt steps p.step).loop = some l)
    (left : 0 < p.loop.getD l.count) :
    endStep steps p = { p with step := l.back, remaining := (stepAt steps l.back).duration, loop := some (p.loop.getD l.count - 1) } := by
  simp [endStep, loop, left, goToStep]

theorem endStep_plain {steps : List Step} {p : Program} (loop : (stepAt steps p.step).loop = none) :
    endStep steps p = fallThrough steps p := by
  simp [endStep, loop]

theorem endStep_spent {steps : List Step} {p : Program} {l : StepLoop} (loop : (stepAt steps p.step).loop = some l)
    (spent : p.loop.getD l.count = 0) : endStep steps p = fallThrough steps { p with loop := none } := by
  simp [endStep, loop, spent]

theorem fallThrough_next {steps : List Step} {p : Program} (more : p.step + 1 < steps.length) :
    fallThrough steps p = { p with step := p.step + 1, remaining := (stepAt steps (p.step + 1)).duration } := by
  simp [fallThrough, more, goToStep]

theorem fallThrough_last {steps : List Step} {p : Program} (last : steps.length ≤ p.step + 1) :
    fallThrough steps p = { p with step := steps.length - 1, remaining := 0, loop := none, done := true } := by
  simp [fallThrough, last.not_gt, doneProgram]

@[simp] theorem fallThrough_revision (steps : List Step) (p : Program) : (fallThrough steps p).revision = p.revision := by
  unfold fallThrough
  split <;> rfl

@[simp] theorem endStep_revision (steps : List Step) (p : Program) : (endStep steps p).revision = p.revision := by
  unfold endStep
  split
  · simp
  · dsimp only
    split
    · rfl
    · simp

/-- Of fragments with tags apart a tag finds its own. -/
theorem find?_tag {pans : List Fragment} (apart : (pans.map fun g => g.tag).Nodup) {f : Fragment} (hf : f ∈ pans) :
    (pans.find? fun g => g.tag = f.tag) = some f := by
  obtain ⟨g, found⟩ : ∃ g, (pans.find? fun g => decide (g.tag = f.tag)) = some g :=
    Option.isSome_iff_exists.1 (List.find?_isSome.2 ⟨f, hf, by simp⟩)
  have same : g.tag = f.tag := by simpa using List.find?_some found
  rw [found, List.inj_on_of_nodup_map apart (List.mem_of_find?_eq_some found) hf same]

theorem tag_of_cacheEntry {cache : List CacheEntry} {t : Tag} {e : CacheEntry} (h : cacheEntry cache t = some e) : e.tag = t := by
  simpa using List.find?_some h

/-- R58: what the home requests at the end of a step, in RUN. -/
theorem State.progressNotice_run {e : CacheEntry} {new : Program} {s : State} (run : s.sup.state = .run) :
    s.progressNotice e new =
      { s with
        link :=
          if new.done = true then s.link.notify s.setup.noticeLevel e.tag .done new.step
          else if e.mode = .eachStep then s.link.notify s.setup.noticeLevel e.tag .step new.step
          else s.link } := by
  have live : s.sup.state ≠ .silent := by simp [run]
  unfold State.progressNotice
  by_cases done : new.done = true
  · rw [if_pos done, if_pos done, State.notice_live _ _ _ live]
  · rw [if_neg done, if_neg done]
    cases h : e.mode
    · rw [if_pos rfl]
      exact State.notice_live _ _ _ live
    · rfl

/-- R56, R58, R101: the effect of STEP_END on a program in the last second of its step. -/
theorem State.stepEnd_eq {f : Fragment} {p : Program} {e : CacheEntry} {s : State} (run : s.sup.state = .run)
    (apart : (s.tracker.pans.map fun g => g.tag).Nodup) (hf : f ∈ s.tracker.pans) (program : f.program = some p)
    (cached : cacheEntry s.cache f.tag = some e) (ends : stepEnds e.steps p = true) {q : Program} (hq : q = tickProgram e.steps p) :
    s.stepEnd f.tag =
      State.withdrawUntargeted
        { s with
          tracker := { s.tracker with pans := s.tracker.pans.map fun g => if g.tag = f.tag then { g with program := some q } else g }
          link :=
            if f.home = false then s.link
            else if q.done = true then s.link.notify s.setup.noticeLevel f.tag .done q.step
            else if e.mode = .eachStep then s.link.notify s.setup.noticeLevel f.tag .step q.step
            else s.link } := by
  have noticed : s.tickNotice f =
      { s with
        link :=
          if f.home = false then s.link
          else if q.done = true then s.link.notify s.setup.noticeLevel f.tag .done q.step
          else if e.mode = .eachStep then s.link.notify s.setup.noticeLevel f.tag .step q.step
          else s.link } := by
    cases home : f.home
    case false => simp [State.tickNotice, program, cached, home]
    case true =>
      have := State.progressNotice_run (e := e) (new := q) run
      rw [tag_of_cacheEntry cached] at this
      simp [State.tickNotice, program, cached, home, ends, ← hq, this]
  have ticked : (s.tracker.pans.map fun g => if g.tag = f.tag then tickFragment s.cache g else g) =
      s.tracker.pans.map fun g => if g.tag = f.tag then { g with program := some q } else g := by
    refine List.map_congr_left fun g hg => ?_
    split
    · next same =>
      rw [List.inj_on_of_nodup_map apart hg hf same]
      simp [tickFragment, program, cached, hq]
    · rfl
  simp only [State.stepEnd, find?_tag apart hf, program, cached, run, ends, noticed]
  simp [ticked]

/-- Settles O32: the program goes on by `tickProgram`, whose step end is one of the cases of R56. -/
theorem stepEndGoesOn : Obligations.StepEndGoesOn := by
  intro f p e s running run apart hf program cached undone timed last
  have ends : stepEnds e.steps p = true := by simp [stepEnds, undone, timed, last]
  have ended : tickProgram e.steps p = endStep e.steps { p with remaining := 0 } := tickProgram_ends ends
  have taken : exec (.stepEnd f.tag) s = .next (s.stepEnd f.tag) := live_running _ running
  rw [State.stepEnd_eq run apart hf program cached ends ended.symm] at taken
  refine ⟨_, _, taken, rfl, endStep_revision _ _, fun l loop left => endStep_loop (p := { p with remaining := 0 }) loop left,
    fun loop more => ?_, fun l loop spent more => ?_, fun loop past => ?_, State.withdrawUntargeted_cutOf rfl rfl rfl, ?_⟩
  · exact (endStep_plain (p := { p with remaining := 0 }) loop).trans (fallThrough_next more)
  · exact (endStep_spent (p := { p with remaining := 0 }) loop spent).trans (fallThrough_next more)
  · rcases loop with loop | ⟨l, loop, spent⟩
    · exact (endStep_plain (p := { p with remaining := 0 }) loop).trans (fallThrough_last past)
    · exact (endStep_spent (p := { p with remaining := 0 }) loop spent).trans (fallThrough_last past)
  · conv_lhs => rw [State.withdrawUntargeted_frame, State.withdrawUntargeted_coils, State.withdrawUntargeted_sense]
    rfl

/-! ### The total duration (R55) -/

/-- R55: the seconds a program has still to run: what remains of its step, and the steps after it. -/
def secondsLeft (steps : List Step) (p : Program) : Nat := p.remaining + ((steps.drop (p.step + 1)).map fun x => x.duration).sum

theorem stepAt_eq {steps : List Step} {k : Nat} (h : k < steps.length) : stepAt steps k = steps[k] := by
  simp [stepAt, List.getD_eq_getElem?_getD, h]

theorem tickProgram_done (steps : List Step) {p : Program} (h : p.done = true) : tickProgram steps p = p := by
  simp [tickProgram, h]

theorem iterate_tickProgram_done (steps : List Step) {p : Program} (h : p.done = true) (n : Nat) :
    (tickProgram steps)^[n] p = p := Function.iterate_fixed (tickProgram_done steps h) n

/-- R55: a program at a step of a setting whose steps are all timed and plain is done once its seconds have run. -/
theorem iterate_tickProgram_plain {steps : List Step} (plain : ∀ x ∈ steps, 0 < x.duration ∧ x.loop = none) (n : Nat) {p : Program}
    (undone : p.done = false) (step : p.step < steps.length) (remains : 0 < p.remaining) :
    ((tickProgram steps)^[n] p).done = decide (secondsLeft steps p ≤ n) := by
  induction n generalizing p with
  | zero =>
    have seconds : ¬secondsLeft steps p ≤ 0 := by unfold secondsLeft; omega
    simpa [undone] using seconds
  | succ n ih =>
    obtain ⟨timed, loop⟩ := plain _ (List.getElem_mem step)
    rw [← stepAt_eq step] at timed loop
    rw [Function.iterate_succ_apply]
    by_cases last : p.remaining ≤ 1
    · have ends : stepEnds steps p = true := by simp [stepEnds, undone, timed, last]
      rw [tickProgram_ends ends, endStep_plain (p := { p with remaining := 0 }) loop]
      by_cases more : p.step + 1 < steps.length
      · have next := (plain _ (List.getElem_mem more)).1
        have tail : ((steps.drop (p.step + 1)).map fun x => x.duration).sum =
            (stepAt steps (p.step + 1)).duration + ((steps.drop (p.step + 1 + 1)).map fun x => x.duration).sum := by
          rw [List.drop_eq_getElem_cons more, stepAt_eq more, List.map_cons, List.sum_cons]
        rw [fallThrough_next (p := { p with remaining := 0 }) more]
        refine (ih (p := { p with step := p.step + 1, remaining := (stepAt steps (p.step + 1)).duration }) undone more
          (by simpa [stepAt_eq more] using next)).trans ?_
        refine decide_eq_decide.2 ?_
        simp only [secondsLeft, tail]
        omega
      · have past : steps.drop (p.step + 1) = [] := List.drop_eq_nil_of_le (by omega)
        rw [fallThrough_last (p := { p with remaining := 0 }) (Nat.le_of_not_lt more), iterate_tickProgram_done _ rfl]
        simp only [secondsLeft, past, List.map_nil, List.sum_nil]
        exact (decide_eq_true (by omega)).symm
    · have goes : stepEnds steps p = false := by simp [stepEnds, last]
      have ticked : tickProgram steps p = { p with remaining := p.remaining - 1 } := by
        simp [tickProgram, undone, timed.ne', goes]
      have left : 0 < p.remaining - 1 := by omega
      rw [ticked]
      refine (ih (p := { p with remaining := p.remaining - 1 }) undone step left).trans ?_
      refine decide_eq_decide.2 ?_
      simp only [secondsLeft]
      omega

/-- Settles O35: at its start a program has its whole duration left. -/
theorem programIsDoneAtItsTotalDuration : Obligations.ProgramIsDoneAtItsTotalDuration := by
  intro revision steps n some plain
  have first : 0 < steps.length := List.length_pos_iff.2 some
  have whole : secondsLeft steps (startProgram revision steps) = (steps.map fun x => x.duration).sum := by
    obtain ⟨x, xs, rfl⟩ := List.exists_cons_of_ne_nil some
    simp [secondsLeft, startProgram, stepAt]
  rw [← whole]
  refine iterate_tickProgram_plain plain n rfl first ?_
  have timed := (plain _ (List.getElem_mem first)).1
  rwa [← stepAt_eq first] at timed

end Sys2Proof.Machine

/-! PROOFS. The peer fragment table (R41, R42, R60, R147, R148): an entry that leaves it by age or by a closed report, and a report that
is stored. -/

namespace Sys2Proof.Machine

open Sys2Proof

/-! ### An entry that ages out (R148) -/

/-- R42: a second test of a tag does nothing. -/
theorem State.foldl_confirm_settled {t : Tag} {s : State} (settled : s.SettledTag t) {gone : List PeerEntry}
    (tags : ∀ e ∈ gone, e.report.tag = t) : gone.foldl (fun s' e => s'.confirmIfGone e.report.tag) s = s := by
  induction gone with
  | nil => rfl
  | cons e gone ih =>
    obtain ⟨tag, tags⟩ := List.forall_mem_cons.1 tags
    rw [List.foldl_cons, tag, State.confirmIfGone_settled settled, ih tags]

/-- R42: entries of one tag that leave the table make one test. -/
theorem State.foldl_confirm_one {t : Tag} {s : State} {gone : List PeerEntry} (some : gone ≠ [])
    (tags : ∀ e ∈ gone, e.report.tag = t) : gone.foldl (fun s' e => s'.confirmIfGone e.report.tag) s = s.confirmIfGone t := by
  obtain ⟨e, rest, rfl⟩ := List.exists_cons_of_ne_nil some
  obtain ⟨tag, tags⟩ := List.forall_mem_cons.1 tags
  rw [List.foldl_cons, tag, State.foldl_confirm_settled (s.confirmIfGone_settles t) tags]

/-- R42: what the test does once the table is `peers`. -/
theorem State.confirmIfGone_withLink (t : Tag) (l : Link) (s : State) :
    State.confirmIfGone t { s with link := l } =
      { s with
        tracker :=
          { s.tracker with
            lifted :=
              if s.sup.state = .run ∧ ∀ e ∈ l.peers, e.report.tag = t → e.report.area = 0 then
                s.tracker.lifted.map fun e => if e.tag = t then { e with confirmed := true } else e
              else s.tracker.lifted }
        link := if s.sup.state = .run ∧ ∀ e ∈ l.peers, e.report.tag = t → e.report.area = 0 then s.causesHanded t l else l } := by
  rw [State.confirmIfGone_eq]
  split_ifs <;> rfl

@[simp] theorem State.confirmIfGone_peers (t : Tag) (s : State) : (s.confirmIfGone t).link.peers = s.link.peers := by
  rw [State.confirmIfGone_eq]
  split <;> simp

/-- Settles O16: all entries of the source and tag leave, and the test of R42 follows. -/
theorem peerAgeOutConfirmsLiftedEntries : Obligations.PeerAgeOutConfirmsLiftedEntries := by
  intro q t s running some last
  have aged : ∀ e ∈ s.link.peers,
      (decide (e.source = q) && decide (e.report.tag = t) && outAged e) = decide (e.source = q ∧ e.report.tag = t) := by
    intro e he
    by_cases key : e.source = q ∧ e.report.tag = t
    · simp [key, outAged, last e he key.1 key.2]
    · simp only [key, decide_false, Bool.and_eq_false_iff, decide_eq_false_iff_not]
      tauto
  have kept : (s.link.peers.filter fun e => !(decide (e.source = q) && decide (e.report.tag = t) && outAged e)) =
      s.link.peers.filter fun e => !(e.source = q ∧ e.report.tag = t) :=
    List.filter_congr fun e he => by rw [aged e he]
  have gone : s.link.peers.filter (fun e => decide (e.source = q) && decide (e.report.tag = t) && outAged e) ≠ [] := by
    obtain ⟨e, he, key⟩ := some
    exact List.ne_nil_of_mem (List.mem_filter.2 ⟨he, by rw [aged e he]; simpa using key⟩)
  have removed : s.peerAgeOut q t =
      State.confirmIfGone t { s with link := { s.link with peers := s.link.peers.filter fun e => !(e.source = q ∧ e.report.tag = t) } } := by
    rw [State.peerAgeOut, State.removePeers, kept]
    exact State.foldl_confirm_one gone fun e he => by
      have := (List.mem_filter.1 he).2
      simp only [Bool.and_eq_true, decide_eq_true_eq] at this
      exact this.1.2
  have taken : exec (.peerFragmentAgeOut q t) s = .next (s.peerAgeOut q t) := live_running _ running
  rw [taken, removed]
  have left := State.confirmIfGone_peers t
    { s with link := { s.link with peers := s.link.peers.filter fun e => !(e.source = q ∧ e.report.tag = t) } }
  refine ⟨_, rfl, left, ?_, ?_⟩
  · simp only [left]
    rw [State.confirmIfGone_withLink]
  · simp only [State.Unreported, left]
    rw [State.confirmIfGone_withLink]

/-! ### A closed report (R42, R147) -/

theorem State.fragment_received {source : LinkPos} {q : Position} {payload : List Byte} {s : State} (running : s.sup.held = false)
    (live : s.sup.state ≠ .silent) (idle : s.link.awaitsIdle = false) (position : q.val = source.val) (other : q ≠ s.sup.position) :
    exec (.fragment source payload) s =
      .next
        (State.receiveFragment q payload
          { s with link := { s.link with lineIdle := false, ackDriven := true, rejectDriven := false } }) := by
  have source_eq : modulePosition source = some q := modulePosition_eq position
  have foreign : modulePosition source ≠ some s.sup.position := fun own => other (Option.some.inj (source_eq.symm.trans own))
  have taken : exec (.fragment source payload) s = .next (s.takeFrame .fragment source payload) := live_running _ running
  rw [taken, State.takeFrame_received _ _ _ (State.receives_of live idle) foreign]
  simp only [State.handleFrame, source_eq]
  rfl

/-- R42, R147: a closed report removes the entries of its source and tag; where one was removed the test follows. -/
theorem State.closePeer_eq (q : Position) (t : Tag) (s : State) {p : List PeerEntry}
    (hp : p = s.link.peers.filter fun e => !(e.source = q ∧ e.report.tag = t)) :
    s.closePeer q t =
      { s with
        tracker :=
          { s.tracker with
            lifted :=
              if s.sup.state = .run ∧ (∃ e ∈ s.link.peers, e.source = q ∧ e.report.tag = t) ∧
                  ∀ e ∈ p, e.report.tag = t → e.report.area = 0 then
                s.tracker.lifted.map fun e => if e.tag = t then { e with confirmed := true } else e
              else s.tracker.lifted }
        link :=
          if s.sup.state = .run ∧ (∃ e ∈ s.link.peers, e.source = q ∧ e.report.tag = t) ∧
              ∀ e ∈ p, e.report.tag = t → e.report.area = 0 then
            s.causesHanded t { s.link with peers := p }
          else { s.link with peers := p } } := by
  have kept : (s.link.peers.filter fun e => !e.isOf q t) = p := by
    rw [hp]
    exact List.filter_congr fun e _ => by simp [PeerEntry.isOf]
  by_cases held : ∃ e ∈ s.link.peers, e.source = q ∧ e.report.tag = t
  · have found : s.link.peers.any (PeerEntry.isOf q t) = true := by simpa [List.any_eq_true, PeerEntry.isOf] using held
    rw [State.closePeer, if_pos found, kept, State.confirmIfGone_withLink]
    simp only [held, true_and]
  · have absent : s.link.peers.any (PeerEntry.isOf q t) = false := by
      simpa [List.any_eq_false, PeerEntry.isOf] using held
    have whole : p = s.link.peers := by
      rw [hp]
      refine List.filter_eq_self.2 fun e he => ?_
      have apart : ¬(e.source = q ∧ e.report.tag = t) := fun key => held ⟨e, he, key⟩
      simpa only [Bool.not_eq_true', decide_eq_false_iff_not] using apart
    rw [State.closePeer_absent q t absent, whole]
    simp [held]

/-! ### A report that is stored (R41, R42, R60, R147) -/

@[simp] theorem Link.notifyEach_peers (level : Nat) (kind : LiftedEntry → NoticeKind) (entries : List LiftedEntry) (l : Link) :
    (l.notifyEach level kind entries).peers = l.peers := by
  rw [Link.notifyEach_frame]

/-- R42: the lifted list after the test that an eviction makes; `p` is the table after the store. -/
def liftedEvicted (p : List PeerEntry) (evicted : Option PeerEntry) (lifted : List LiftedEntry) : List LiftedEntry :=
  match evicted with
  | none => lifted
  | some x =>
    if ∀ e ∈ p, e.report.tag = x.report.tag → e.report.area = 0 then
      lifted.map fun e => if e.tag = x.report.tag then { e with confirmed := true } else e
    else lifted

/-- R42: the link after that test. -/
def State.evictedHanded (s : State) (evicted : Option PeerEntry) (l : Link) : Link :=
  match evicted with
  | none => l
  | some x => if ∀ e ∈ l.peers, e.report.tag = x.report.tag → e.report.area = 0 then s.causesHanded x.report.tag l else l

@[simp] theorem State.evictedHanded_peers (s : State) (evicted : Option PeerEntry) (l : Link) :
    (s.evictedHanded evicted l).peers = l.peers := by
  unfold State.evictedHanded
  split
  · rfl
  · split <;> simp

theorem State.evictedHanded_frame (s : State) (evicted : Option PeerEntry) (l : Link) :
    s.evictedHanded evicted l =
      { l with queue := (s.evictedHanded evicted l).queue, dropped := (s.evictedHanded evicted l).dropped } := by
  unfold State.evictedHanded
  split
  · rfl
  · split
    · exact s.causesHanded_frame _ l
    · rfl

/-- R42: all that the test of an eviction does in RUN. -/
theorem State.testEvicted_run (evicted : Option PeerEntry) (l : Link) {s : State} (run : s.sup.state = .run) :
    State.testEvicted evicted { s with link := l } =
      { s with
        tracker := { s.tracker with lifted := liftedEvicted l.peers evicted s.tracker.lifted }
        link := s.evictedHanded evicted l } := by
  cases evicted with
  | none => rfl
  | some x =>
    rw [State.testEvicted, State.confirmIfGone_withLink]
    simp only [run, true_and]
    rfl

/-- R42: outside RUN a removal is not tested. -/
theorem State.testEvicted_idle (evicted : Option PeerEntry) {s : State} (idle : s.sup.state ≠ .run) : s.testEvicted evicted = s := by
  cases evicted with
  | none => rfl
  | some x => rw [State.testEvicted, State.confirmIfGone_eq, if_neg fun h => idle h.1]

/-- R42: an eviction does not reach the lifted entry of a tag that a stored report has. -/
theorem liftedEvicted_filter {p : List PeerEntry} {t : Tag} (reported : ∃ e ∈ p, e.report.tag = t ∧ e.report.area ≠ 0)
    (evicted : Option PeerEntry) (lifted : List LiftedEntry) :
    ((liftedEvicted p evicted lifted).filter fun e => decide (e.tag = t) && e.confirmed && e.wasHome) =
      lifted.filter fun e => decide (e.tag = t) && e.confirmed && e.wasHome := by
  cases evicted with
  | none => rfl
  | some x =>
    rw [liftedEvicted]
    split
    · next gone =>
      have other : x.report.tag ≠ t := fun same => by
        obtain ⟨e, he, tag, area⟩ := reported
        exact area (gone e he (tag.trans same.symm))
      rw [List.filter_map]
      have same : lifted.filter ((fun e : LiftedEntry => decide (e.tag = t) && e.confirmed && e.wasHome) ∘
          fun e => if e.tag = x.report.tag then { e with confirmed := true } else e) =
          lifted.filter fun e => decide (e.tag = t) && e.confirmed && e.wasHome := by
        refine List.filter_congr fun e _ => ?_
        by_cases confirmed : e.tag = x.report.tag
        · simp [confirmed, other]
        · simp [confirmed]
      rw [same]
      refine (List.map_congr_left fun e he => ?_).trans (List.map_id _)
      have tag : e.tag = t := by
        have := (List.mem_filter.1 he).2
        simp only [Bool.and_eq_true, decide_eq_true_eq] at this
        exact this.1.1
      exact if_neg fun confirmed => other (confirmed.symm.trans tag)
    · rfl

/-- R41, R42, R60, R147: all that the store of a report does in RUN. -/
theorem State.storeReport_run {q : Position} {r : Report} {s : State} (run : s.sup.state = .run) (area : r.area ≠ 0)
    {l : Link} (hl : l = { s.link with peers := storePeer q r s.link.peers }) :
    s.storeReport q r =
      State.withdrawUntargeted
        { s with
          tracker :=
            { s.tracker with
              pans := s.tracker.pans.map (followFragment s.cache r)
              lifted := (liftedEvicted l.peers (evictedPeer q r s.link.peers) s.tracker.lifted).filter fun e => e.tag ≠ r.tag }
          link :=
            Link.notifyEach s.setup.noticeLevel (fun _ => .returned)
              (s.tracker.lifted.filter fun e => decide (e.tag = r.tag) && e.confirmed && e.wasHome)
              (s.evictedHanded (evictedPeer q r s.link.peers) l) } := by
  have stored : ∃ e ∈ l.peers, e.report.tag = r.tag ∧ e.report.area ≠ 0 := by
    rw [hl]
    exact ⟨{ source := q, report := r, age := 0 }, by simp [storePeer], rfl, area⟩
  rw [State.storeReport, ← hl, State.testEvicted_run _ _ run, State.departIfLifted_eq, if_pos run]
  dsimp only
  rw [liftedEvicted_filter stored, State.followHome]
  exact if_pos run

theorem State.withdrawUntargeted_of_link {u : State} {l : Link} (h : u.link = l) :
    u.withdrawUntargeted =
      { u with
        coils := u.withdrawUntargeted.coils, drive := u.withdrawUntargeted.drive, sense := u.withdrawUntargeted.sense, link := l } := by
  rw [← h]
  rfl

/-- R41, R42: the notices of a store change the queue and the dropped count alone. -/
theorem Link.returned_frame (s : State) (evicted : Option PeerEntry) (returned : List LiftedEntry) (l : Link) {m : Link}
    (h : m = Link.notifyEach s.setup.noticeLevel (fun _ => .returned) returned (s.evictedHanded evicted l)) :
    m = { l with peers := m.peers, queue := m.queue, dropped := m.dropped } := by
  rw [h, Link.notifyEach_frame, s.evictedHanded_frame]

/-- R147: outside RUN a stored report reaches the table alone. -/
theorem State.storeReport_idle {q : Position} {r : Report} {s : State} (idle : s.sup.state ≠ .run) :
    s.storeReport q r = { s with link := { s.link with peers := storePeer q r s.link.peers } } := by
  rw [State.storeReport, State.testEvicted_idle _ (by exact idle), State.departIfLifted_eq, if_neg (by exact idle), State.followHome,
    if_neg (by exact idle)]

theorem storePeer_others {q : Position} {r : Report} {peers others : List PeerEntry}
    (h : others = peers.filter fun e => !(e.source = q ∧ e.report.tag = r.tag)) :
    storePeer q r peers = (if others.length < 16 then others else others.drop 1) ++ [{ source := q, report := r, age := 0 }] ∧
      evictedPeer q r peers = if others.length < 16 then none else others.head? := by
  have kept : (peers.filter fun e => !e.isOf q r.tag) = others := by
    rw [h]
    exact List.filter_congr fun e _ => by simp [PeerEntry.isOf]
  simp only [storePeer, evictedPeer, kept]
  exact ⟨rfl, rfl⟩

/-- R60: the clamps of a published state. -/
theorem checkPublished_eq (steps : List Step) (p : Program) :
    checkPublished steps p =
      if p.done = true ∨ steps.length ≤ p.step then { p with step := steps.length - 1, remaining := 0, loop := none, done := true }
      else { p with remaining := min p.remaining (stepAt steps p.step).duration } := by
  have clamp (d : Nat) : (if d < p.remaining then d else p.remaining) = min p.remaining d := by
    rw [Nat.min_def]
    split_ifs <;> omega
  simp [checkPublished, doneProgram, clamp]

/-- R60: the program a fragment has after a report of the home. -/
theorem followFragment_eq (cache : List CacheEntry) (r : Report) (f : Fragment) :
    followFragment cache r f =
      { f with
        program :=
          match f.program, r.published, cacheEntry cache f.tag with
          | some own, some p, some e =>
            if f.tag = r.tag ∧ f.home = false ∧ r.home = true ∧ own.revision = p.program.revision then
              some
                (if p.program.done = true ∨ e.steps.length ≤ p.program.step then
                  { p.program with step := e.steps.length - 1, remaining := 0, loop := none, done := true }
                else { p.program with remaining := min p.program.remaining (stepAt e.steps p.program.step).duration })
            else some own
          | _, _, _ => f.program } := by
  obtain ⟨tag, coils, area, edge, origin, program, home, contact, panContact, share⟩ := f
  unfold followFragment Report.program?
  dsimp only
  by_cases follows : tag = r.tag ∧ home = false ∧ r.home = true
  case pos =>
    obtain ⟨same, away, published⟩ := follows
    rw [if_pos (by simp [same, away, published])]
    cases program with
    | none => rfl
    | some own =>
      cases r.published with
      | none => rfl
      | some p =>
        cases cacheEntry cache tag with
        | none => rfl
        | some e => by_cases revision : own.revision = p.program.revision <;> simp [same, away, published, revision, checkPublished_eq]
  case neg =>
    rw [if_neg (by simpa [and_assoc] using follows)]
    cases program with
    | none => rfl
    | some own =>
      cases r.published with
      | none => rfl
      | some p =>
        cases cacheEntry cache tag with
        | none => rfl
        | some e =>
          dsimp only
          rw [if_neg fun h => follows ⟨h.1, h.2.1, h.2.2.1⟩]

/-- Settles O50: a closed report by `State.closePeer_eq`, one with area by `State.storeReport_run` and `State.storeReport_idle`. -/
theorem fragmentIsStoredOrCloses : Obligations.FragmentIsStoredOrCloses := by
  intro source q payload heard s running live idle position other hheard
  have taken := State.fragment_received (payload := payload) running live idle position other
  rw [← hheard] at taken
  have peers : heard.peers = s.link.peers := by rw [hheard]
  rw [taken]
  refine ⟨fun tag closed => ?_, fun r others decoded hothers => ?_⟩
  · have received : State.receiveFragment q payload { s with link := heard } = State.closePeer q tag { s with link := heard } := by
      simp [State.receiveFragment, closed]
    rw [received, State.closePeer_eq q tag { s with link := heard } rfl]
    dsimp only
    rw [peers]
    have left (c : Prop) [Decidable c] (p : List PeerEntry) (u : State) :
        (if c then u.causesHanded tag { heard with peers := p } else { heard with peers := p }).peers = p := by
      split <;> simp
    refine ⟨_, rfl, left _ _ _, ?_, ?_⟩
    · simp only [State.Unreported, left]
    · simp only [State.Unreported, left]
      rfl
  · have area : r.area ≠ 0 := by have := (decodeFragment_report decoded).1; omega
    have received : State.receiveFragment q payload { s with link := heard } = State.storeReport q r { s with link := heard } := by
      simp [State.receiveFragment, decoded]
    obtain ⟨store, evicted⟩ := storePeer_others hothers
    rw [received]
    by_cases run : s.sup.state = .run
    · rw [State.storeReport_run (s := { s with link := heard }) run area rfl]
      dsimp only
      rw [peers, evicted]
      have left (u : State) (entries : List LiftedEntry) (evicted : Option PeerEntry) :
          (Link.notifyEach s.setup.noticeLevel (fun _ => .returned) entries
            (u.evictedHanded evicted { heard with peers := storePeer q r s.link.peers })).peers = storePeer q r s.link.peers := by
        simp
      refine ⟨_, rfl, (left _ _ _).trans store, fun h => absurd run h, fun _ => ⟨rfl, ?_, ?_,
        State.withdrawUntargeted_cutOf rfl rfl rfl, State.withdrawUntargeted_coils _, rfl, ?_⟩, ?_⟩
      · simp only [State.Unreported, State.withdrawUntargeted_link, left]
        rw [List.filter_congr fun e _ => decide_not]
        rfl
      · exact List.map_congr_left fun f _ => followFragment_eq s.cache r f
      · simp only [State.Unreported, State.withdrawUntargeted_link, left]
        rfl
      · exact State.withdrawUntargeted_of_link (Link.returned_frame { s with link := heard } _ _
          { heard with peers := storePeer q r s.link.peers } rfl)
    · rw [State.storeReport_idle (s := { s with link := heard }) run]
      dsimp only
      rw [peers]
      exact ⟨_, rfl, store, fun _ => rfl, fun h => absurd h run, rfl⟩

end Sys2Proof.Machine

/-! PROOFS. The formats (R131, R132, R138, R151, R155 to R158): a frame put on the line is heard whole, and a report and a status decode
as they were encoded. -/

namespace Sys2Proof.Machine

open Sys2Proof

/-! ### Bits and numbers -/

@[simp] theorem bitsOf_length (n w : Nat) : (bitsOf n w).length = n := by
  induction n with
  | zero => rfl
  | succ n ih => simp [bitsOf, ih]

/-- A number read on from `m`. -/
theorem foldl_bits (bits : List Bool) (m : Nat) :
    bits.foldl (fun n b => 2 * n + (if b then 1 else 0)) m = m * 2 ^ bits.length + numberOf bits := by
  induction bits generalizing m with
  | nil => simp [numberOf]
  | cons b bits ih =>
    rw [numberOf, List.foldl_cons, List.foldl_cons, ih, ih (2 * 0 + _), List.length_cons, pow_succ]
    ring

/-- The bits of a number read back are its low bits. -/
theorem numberOf_bitsOf (n w : Nat) : numberOf (bitsOf n w) = w % 2 ^ n := by
  induction n with
  | zero => simp [bitsOf, numberOf, Nat.mod_one]
  | succ n ih =>
    have top : (if decide (w / 2 ^ n % 2 = 1) = true then 1 else 0) = w / 2 ^ n % 2 := by
      rcases Nat.mod_two_eq_zero_or_one (w / 2 ^ n) with h | h <;> simp [h]
    rw [bitsOf, numberOf, List.foldl_cons, foldl_bits, ih, bitsOf_length, top, Nat.mod_pow_succ]
    ring

/-- A word is read back from its bits. -/
theorem ofNat_numberOf_bitsOf {n : Nat} (x : BitVec n) : BitVec.ofNat n (numberOf (bitsOf n x.toNat)) = x := by
  rw [numberOf_bitsOf, Nat.mod_eq_of_lt x.isLt, BitVec.ofNat_toNat, BitVec.setWidth_eq]

/-! ### The line (R131, R132, R138) -/

/-- R131: the receiver takes out the filler bits the sender put in, and stands where the sender stood. -/
theorem readBits_stuff (bits more : List Bool) (last : Bool) (run : Nat) :
    ∃ last' run', readBits bits.length { last := last, run := run, rest := stuff last run (bits ++ more) } =
      some (bits, { last := last', run := run', rest := stuff last' run' more }) := by
  induction bits generalizing last run with
  | nil => exact ⟨last, run, rfl⟩
  | cons b bits ih =>
    by_cases full : (if b = last then run + 1 else 1) = 5
    · obtain ⟨last', run', read⟩ := ih (!b) 1
      exact ⟨last', run', by simp [readBits, stuff, full, read]⟩
    · obtain ⟨last', run', read⟩ := ih b (if b = last then run + 1 else 1)
      exact ⟨last', run', by simp [readBits, stuff, full, read]⟩

/-- R138: the bytes of a payload cut out of its bits. -/
theorem bytesOf_flatMap (payload : List Byte) : bytesOf payload.length (payload.flatMap fun b => bitsOf 8 b.toNat) = payload := by
  induction payload with
  | nil => rfl
  | cons b payload ih =>
    have byte : byteOf (numberOf (bitsOf 8 b.toNat)) = b := ofNat_numberOf_bitsOf b
    rw [List.flatMap_cons, List.length_cons, bytesOf, List.take_left' (bitsOf_length 8 _), List.drop_left' (bitsOf_length 8 _), byte, ih]

theorem flatMap_bits_length (payload : List Byte) : (payload.flatMap fun b => bitsOf 8 b.toNat).length = 8 * payload.length := by
  induction payload with
  | nil => rfl
  | cons b payload ih => rw [List.flatMap_cons, List.length_append, ih, bitsOf_length, List.length_cons]; omega

/-- R132: what stands before the payload, from the start mark to the length. -/
def headBits (level kind source length : Nat) : List Bool :=
  false :: (bitsOf 2 (3 - level) ++ bitsOf 4 kind ++ bitsOf 4 source ++ bitsOf 6 length)

theorem headBits_length (level kind source length : Nat) : (headBits level kind source length).length = 17 := by
  simp [headBits]

/-- R131, R132: the frame in the three parts in which the receiver reads it. -/
theorem plainBits_eq (level kind source : Nat) (payload : List Byte) :
    plainBits level kind source payload =
      headBits level kind source payload.length ++ ((payload.flatMap fun b => bitsOf 8 b.toNat) ++
        bitsOf 16 (crc (checkedBits level kind source payload)).toNat) := by
  simp [plainBits, headBits, checkedBits, contentionField]

theorem headBits_checked (level kind source : Nat) (payload : List Byte) :
    (headBits level kind source payload.length).drop 1 ++ (payload.flatMap fun b => bitsOf 8 b.toNat) =
      checkedBits level kind source payload := by
  simp [headBits, checkedBits, contentionField]

theorem headBits_payloadLength (level kind source length : Nat) : (headBits level kind source length).drop 11 = bitsOf 6 length := by
  rw [headBits, List.drop_succ_cons, List.drop_left' (by simp)]

theorem headBits_kind (level kind source length : Nat) : ((headBits level kind source length).drop 3).take 4 = bitsOf 4 kind := by
  rw [headBits, List.drop_succ_cons, List.append_assoc, List.append_assoc, List.drop_left' (by simp), List.take_left' (by simp)]

theorem headBits_source (level kind source length : Nat) : ((headBits level kind source length).drop 7).take 4 = bitsOf 4 source := by
  rw [headBits, List.drop_succ_cons, List.append_assoc, List.drop_left' (by simp), List.take_left' (by simp)]

/-- Settles O54: the three parts of the frame are read one after the other by `readBits_stuff`. -/
theorem sentFrameIsHeardWhole : Obligations.SentFrameIsHeardWhole := by
  intro level kind source payload _ short
  obtain ⟨l1, r1, head⟩ := readBits_stuff (headBits level kind.toNat source.val payload.length)
    ((payload.flatMap fun b => bitsOf 8 b.toNat) ++ bitsOf 16 (crc (checkedBits level kind.toNat source.val payload)).toNat) true 0
  obtain ⟨l2, r2, body⟩ := readBits_stuff (payload.flatMap fun b => bitsOf 8 b.toNat)
    (bitsOf 16 (crc (checkedBits level kind.toNat source.val payload)).toNat) l1 r1
  obtain ⟨l3, r3, check⟩ := readBits_stuff (bitsOf 16 (crc (checkedBits level kind.toNat source.val payload)).toNat) [] l2 r2
  rw [headBits_length] at head
  rw [flatMap_bits_length] at body
  rw [bitsOf_length, List.append_nil] at check
  have length : numberOf (bitsOf 6 payload.length) = payload.length := by
    rw [numberOf_bitsOf]
    exact Nat.mod_eq_of_lt (by omega)
  have source_eq : numberOf (bitsOf 4 source.val) % 16 = source.val := by
    rw [numberOf_bitsOf]
    have := source.isLt
    omega
  have start : (headBits level kind.toNat source.val payload.length).head? = some false := rfl
  simp only [receiveBits, wireBits, plainBits_eq, head, headBits_payloadLength, length, body, check, start, headBits_checked,
    ofNat_numberOf_bitsOf, headBits_kind, headBits_source, source_eq, bytesOf_flatMap]
  simp

/-! ### Payloads (R151, R155 to R158) -/

theorem byteOf_toNat {n : Nat} (h : n < 256) : (byteOf n).toNat = n := by simp [byteOf, Nat.mod_eq_of_lt h]

/-- R151: a two-byte field is read back. -/
theorem word_toNat {n : Nat} (h : n < 65536) : (byteOf (n / 256)).toNat * 256 + (byteOf n).toNat = n := by
  simp only [byteOf, BitVec.toNat_ofNat]
  omega

theorem tagCode_lt (t : Tag) : t.code < 32768 := by
  have creator := t.creator.isLt
  have serial := t.serial.isLt
  unfold Tag.code
  omega

/-- R151: the code of a tag of serial 1 or above is that tag. -/
theorem tagField_code {t : Tag} (h : 1 ≤ t.serial.val) : tagField t.code = .tag t := by
  have creator := t.creator.isLt
  have serial := t.serial.isLt
  have some : ¬t.code % 32768 = 0 := by unfold Tag.code; omega
  have valid : ¬t.code % 4096 = 0 := by unfold Tag.code; omega
  rw [tagField, if_neg some, if_neg valid]
  obtain ⟨c, n⟩ := t
  simp only [Tag.code] at creator serial ⊢
  congr 2
  · exact Fin.ext (by simp only; omega)
  · exact Fin.ext (by simp only; omega)

/-- R155, R156: a closed report is read back as closed. -/
theorem decodeFragment_encodeClosed {t : Tag} (h : 1 ≤ t.serial.val) : decodeFragment (encodeClosed t) = some (.closed t) := by
  have tag : wordAt (encodeClosed t) 0 = t.code := word_toNat (by have := tagCode_lt t; omega)
  have area : wordAt (encodeClosed t) 2 = 0 := by simp [wordAt, byteAt, encodeClosed, wordBytes]
  have length : (encodeClosed t).length = 20 := rfl
  simp [decodeFragment, length, tag, tagField_code h, area]

/-- R155: the has-program, done, home, contact and unloaded flags of byte 19. -/
def fragmentFlags (published : Option Published) (home contact : Bool) : Nat :=
  (encodePublished published).2 + flag home 32 + flag contact 16

theorem fragmentFlags_none (home contact : Bool) :
    hasFlag (fragmentFlags none home contact) 128 = false ∧ hasFlag (fragmentFlags none home contact) 32 = home ∧
      hasFlag (fragmentFlags none home contact) 16 = contact ∧ fragmentFlags none home contact < 256 := by
  revert home contact
  decide

/-- R155: the flags of a program are those of its done bit and its unloaded counter. -/
theorem fragmentFlags_some (p : Published) (home contact : Bool) :
    fragmentFlags (some p) home contact = 128 + flag p.program.done 64 + flag p.program.loop.isNone 8 + flag home 32 + flag contact 16 :=
  rfl

theorem hasFlag_fragmentFlags (done unloaded home contact : Bool) {n : Nat}
    (h : n = 128 + flag done 64 + flag unloaded 8 + flag home 32 + flag contact 16) :
    hasFlag n 128 = true ∧ hasFlag n 64 = done ∧ hasFlag n 8 = unloaded ∧ hasFlag n 32 = home ∧ hasFlag n 16 = contact ∧ n < 256 := by
  subst h
  revert done unloaded home contact
  decide

section

variable {r : Report}

/-- R155: the twenty bytes of a report; the program's stand in `encodePublished`. -/
theorem encodeReport_length (r : Report) : (encodeReport r).length = 20 := by
  unfold encodeReport encodePublished
  cases r.published <;> rfl

theorem encodeReport_tag (r : Report) : wordAt (encodeReport r) 0 = r.tag.code :=
  word_toNat (by have := tagCode_lt r.tag; omega)

theorem encodeReport_area (h : r.area ≤ 512) : wordAt (encodeReport r) 2 = r.area := word_toNat (by omega)

theorem encodeReport_edge (h : ∀ i, r.edge.get i ≤ 64) (i : Fin 8) : byteAt (encodeReport r) (4 + i.val) = r.edge.get i := by
  rw [← byteOf_toNat (lt_of_le_of_lt (h i) (by decide))]
  fin_cases i <;> rfl

theorem encodeReport_flags (r : Report) :
    byteAt (encodeReport r) 19 = (byteOf (fragmentFlags r.published r.home r.contact)).toNat := by
  unfold encodeReport fragmentFlags encodePublished
  cases r.published <;> rfl

/-- R155, R156: the program fields of a report within their ranges are read back. -/
theorem decodePublished_encodeReport {p : Published} (published : r.published = some p)
    (ranges : p.program.step ≤ 5 ∧ p.program.remaining ≤ 5999 ∧ p.target ≤ 740 ∧ ∀ n, p.program.loop = some n → n ≤ 15) :
    decodePublished (encodeReport r) = some p := by
  obtain ⟨step, remaining, target, loop⟩ := ranges
  obtain ⟨tag, area, edge, _, home, contact⟩ := r
  obtain rfl : _ = some p := published
  obtain ⟨⟨revision, k, left, counter, done⟩, watts⟩ := p
  dsimp only at step remaining target loop
  have small_step : k < 256 := by omega
  have small_left : left < 65536 := by omega
  have small_watts : watts < 65536 := by omega
  have h13 : byteAt (encodeReport ⟨tag, area, edge, some ⟨⟨revision, k, left, counter, done⟩, watts⟩, home, contact⟩) 13 = k :=
    byteOf_toNat small_step
  have h14 : wordAt (encodeReport ⟨tag, area, edge, some ⟨⟨revision, k, left, counter, done⟩, watts⟩, home, contact⟩) 14 = left :=
    word_toNat small_left
  have h16 : byteAt (encodeReport ⟨tag, area, edge, some ⟨⟨revision, k, left, counter, done⟩, watts⟩, home, contact⟩) 16 =
      (byteOf (counter.getD 0)).toNat := rfl
  have h17 : wordAt (encodeReport ⟨tag, area, edge, some ⟨⟨revision, k, left, counter, done⟩, watts⟩, home, contact⟩) 17 = watts :=
    word_toNat small_watts
  have h12 : (encodeReport ⟨tag, area, edge, some ⟨⟨revision, k, left, counter, done⟩, watts⟩, home, contact⟩).getD 12 0 = revision :=
    rfl
  have h19 := encodeReport_flags ⟨tag, area, edge, some ⟨⟨revision, k, left, counter, done⟩, watts⟩, home, contact⟩
  obtain ⟨-, flag64, flag8, -, -, small⟩ := hasFlag_fragmentFlags done counter.isNone home contact
    (fragmentFlags_some ⟨⟨revision, k, left, counter, done⟩, watts⟩ home contact)
  rw [byteOf_toNat small] at h19
  simp only [decodePublished, h12, h13, h14, h16, h17, h19, flag64, flag8, step, remaining, target]
  cases counter with
  | none => simp
  | some n =>
    have fits := loop n rfl
    have read : (byteOf n).toNat = n := byteOf_toNat (by omega)
    simp [read, fits]

/-- R155, R156: a report within its ranges is read back. -/
theorem decodeFragment_encodeReport (serial : 1 ≤ r.tag.serial.val) (low : 16 ≤ r.area) (high : r.area ≤ 512)
    (sum : r.edge.sum = r.area) (edges : ∀ i, r.edge.get i = 0 ∨ 16 ≤ r.edge.get i ∧ r.edge.get i ≤ 64)
    (published : ∀ p, r.published = some p →
      p.program.step ≤ 5 ∧ p.program.remaining ≤ 5999 ∧ p.target ≤ 740 ∧ ∀ n, p.program.loop = some n → n ≤ 15) :
    decodeFragment (encodeReport r) = some (.report r) := by
  have edge : (Eight.ofFn fun i => byteAt (encodeReport r) (4 + i.val)) = r.edge := by
    refine Eight.ext_get fun i => ?_
    rw [Eight.get_ofFn]
    exact encodeReport_edge (fun i => by rcases edges i with h | h <;> omega) i
  have inside : (r.edge.toList.all fun c => decide (c = 0) || inRange 16 64 c) = true := by
    rw [List.all_eq_true]
    intro c hc
    obtain ⟨i, rfl⟩ := (Eight.mem_toList _ _).1 hc
    simpa [inRange] using edges i
  have some : ¬r.area = 0 := by omega
  have ranges : inRange 16 512 r.area = true := by simp [inRange, low, high]
  have flags := encodeReport_flags r
  simp only [decodeFragment, encodeReport_length, encodeReport_tag, tagField_code serial, encodeReport_area high, edge, inside, ranges, sum,
    some, if_true, if_false, decide_true, Bool.and_self]
  cases program : r.published with
  | none =>
    obtain ⟨has, home, contact, small⟩ := fragmentFlags_none r.home r.contact
    rw [program, byteOf_toNat small] at flags
    simp [flags, has, home, contact]
    rw [← program]
  | some p =>
    obtain ⟨has, -, -, home, contact, small⟩ := hasFlag_fragmentFlags p.program.done p.program.loop.isNone r.home r.contact
      (fragmentFlags_some p r.home r.contact)
    rw [program, byteOf_toNat small] at flags
    simp [flags, has, home, contact, decodePublished_encodeReport program (published p program)]
    rw [← program]

end

theorem lockRoleOf_code (role : LockRole) : lockRoleOf role.code = some role := by cases role <;> rfl

theorem phaseOf_code (phase : Phase) : phaseOf phase.code = phase := by cases phase <;> rfl

theorem Phase.code_lt (phase : Phase) : phase.code < 2 := by cases phase <;> decide

theorem LockRole.code_lt (role : LockRole) : role.code < 256 := by cases role <;> decide

/-- R157: byte 0 of a status holds the state, the phase and the reset cause. -/
theorem statusByte_fields {state phase cause : Nat} (state_le : state ≤ 4) (phase_lt : phase < 2) (cause_le : cause ≤ 3) {n : Nat}
    (h : n = state * 32 + phase * 16 + cause * 4) : n < 256 ∧ n / 32 = state ∧ n / 16 % 2 = phase ∧ n / 4 % 4 = cause := by
  omega

/-- R157, R158: a status within its ranges is read back. -/
theorem decodeStatus_encodeStatus {st : Status} (state_low : 1 ≤ st.stateCode) (state_high : st.stateCode ≤ 4)
    (cause_low : 1 ≤ st.causeCode) (cause_high : st.causeCode ≤ 3) (maximum : st.maximum ≤ 2400) (demand : st.demand ≤ st.maximum)
    (grant : st.grant ≤ st.demand) (grant_high : st.grant ≤ 740) (frequency : inBand st.frequency) (chainFloor : inBand st.chainFloor)
    (faultTop : st.faultTop ≤ 8) (faultCount : st.faultCount ≤ 8) (faults : st.faultTop = 0 ↔ st.faultCount = 0)
    (byte12 : st.byte12 ≤ 255) (losses : st.losses ≤ 255) (rejects : st.rejects ≤ 255) (unheard : st.unheard ≤ 255)
    (dropped : st.dropped ≤ 255) (malformed : st.malformed ≤ 255) (shortfall : st.shortfall ≤ 4095) :
    decodeStatus (encodeStatus st) = some st := by
  obtain ⟨first_lt, state, phase, cause⟩ := statusByte_fields state_high st.phase.code_lt cause_high rfl
  have left := st.leftMask.isLt
  have right := st.rightMask.isLt
  obtain ⟨frequency_low, frequency_high⟩ : 41 ≤ st.frequency ∧ st.frequency ≤ 140 := frequency
  obtain ⟨floor_low, floor_high⟩ : 41 ≤ st.chainFloor ∧ st.chainFloor ≤ 140 := chainFloor
  have b0 : byteAt (encodeStatus st) 0 = st.stateCode * 32 + st.phase.code * 16 + st.causeCode * 4 := byteOf_toNat first_lt
  have w1 : wordAt (encodeStatus st) 1 = st.demand := word_toNat (by omega)
  have w3 : wordAt (encodeStatus st) 3 = st.grant := word_toNat (by omega)
  have w5 : wordAt (encodeStatus st) 5 = st.maximum := word_toNat (by omega)
  have b7 : byteAt (encodeStatus st) 7 = st.frequency := byteOf_toNat (by omega)
  have b8 : byteAt (encodeStatus st) 8 = st.role.code := byteOf_toNat st.role.code_lt
  have b9 : byteAt (encodeStatus st) 9 = st.chainFloor := byteOf_toNat (by omega)
  have b10 : byteAt (encodeStatus st) 10 = st.leftMask.toNat * 16 + st.rightMask.toNat := byteOf_toNat (by omega)
  have b11 : byteAt (encodeStatus st) 11 = st.faultTop * 16 + st.faultCount := byteOf_toNat (by omega)
  have b12 : byteAt (encodeStatus st) 12 = st.byte12 := byteOf_toNat (by omega)
  have b13 : byteAt (encodeStatus st) 13 = st.losses := byteOf_toNat (by omega)
  have b14 : byteAt (encodeStatus st) 14 = st.rejects := byteOf_toNat (by omega)
  have b15 : byteAt (encodeStatus st) 15 = st.unheard := byteOf_toNat (by omega)
  have b16 : byteAt (encodeStatus st) 16 = st.dropped := byteOf_toNat (by omega)
  have b17 : byteAt (encodeStatus st) 17 = st.malformed := byteOf_toNat (by omega)
  have w18 : wordAt (encodeStatus st) 18 = st.shortfall := word_toNat (by omega)
  have length : (encodeStatus st).length = 20 := rfl
  have leftMask : BitVec.ofNat 4 ((st.leftMask.toNat * 16 + st.rightMask.toNat) / 16) = st.leftMask :=
    BitVec.eq_of_toNat_eq (by rw [BitVec.toNat_ofNat]; omega)
  have rightMask : BitVec.ofNat 4 (st.leftMask.toNat * 16 + st.rightMask.toNat) = st.rightMask :=
    BitVec.eq_of_toNat_eq (by rw [BitVec.toNat_ofNat]; omega)
  have top : (st.faultTop * 16 + st.faultCount) / 16 = st.faultTop := by omega
  have count : (st.faultTop * 16 + st.faultCount) % 16 = st.faultCount := by omega
  have published : st.shortfall % 4096 = st.shortfall := Nat.mod_eq_of_lt (by omega)
  simp only [decodeStatus, length, b0, w1, w3, w5, b7, b8, b9, b10, b11, b12, b13, b14, b15, b16, b17, w18, lockRoleOf_code, state, phase,
    cause, phaseOf_code, leftMask, rightMask, top, count, published]
  rw [if_pos trivial, if_pos]
  simp only [inRange, Bool.and_eq_true, decide_eq_true_eq, beq_iff_eq, decide_eq_decide]
  exact ⟨⟨⟨⟨⟨⟨⟨⟨⟨⟨⟨⟨state_low, state_high⟩, cause_low⟩, by omega⟩, maximum⟩, grant_high⟩, grant⟩, demand⟩, frequency_low,
    frequency_high⟩, floor_low, floor_high⟩, faultTop⟩, faultCount⟩, faults⟩

/-- Settles O55, format by format. -/
theorem reportsDecodeAsSent : Obligations.ReportsDecodeAsSent :=
  ⟨fun _ => decodeFragment_encodeReport, fun _ => decodeFragment_encodeClosed, fun _ => decodeStatus_encodeStatus⟩

end Sys2Proof.Machine

/-! PROOFS. The allocation point (R20, R65 to R79, R93 to R109): the grants stay within what they are made from, and the lock and the
frequency of the hand-over are read off the decision of R107. -/

namespace Sys2Proof.Machine

open Sys2Proof

/-! ### The state the hand-over starts from -/

/-- R6, R20, R65: the state of the allocation point whose figures are handed over. -/
def State.allocated (s : State) : State :=
  (State.computeMaxima { s.abortAtSlot1 with timebase := { s.abortAtSlot1.timebase with allocationRaised := false } }).allocate

theorem State.allocationPoint_eq (s : State) : s.allocationPoint = s.allocated.handOver.startDrive := rfl

theorem State.allocationPoint_raised {s : State} (running : s.sup.held = false) (raised : s.timebase.allocationRaised = true) :
    exec .allocationPoint s = .next s.allocationPoint := by
  have taken : exec .allocationPoint s = .next (if s.timebase.allocationRaised then s.allocationPoint else s) := live_running _ running
  rw [taken, raised, if_pos rfl]

theorem State.abortAtSlot1_setupGood (s : State) : s.abortAtSlot1.setupGood = s.setupGood := by
  unfold State.abortAtSlot1
  split
  · rfl
  · split
    · rw [State.trackingUpdate_frame]
      rfl
    · rfl

theorem State.computeMaxima_frame (s : State) : s.computeMaxima = { s with coils := s.computeMaxima.coils } := by
  unfold State.computeMaxima
  split <;> rfl

theorem State.allocate_frame (s : State) : s.allocate = { s with tracker := s.allocate.tracker, alloc := s.allocate.alloc } := by
  unfold State.allocate
  split <;> rfl

theorem State.allocated_setupGood (s : State) : s.allocated.setupGood = s.setupGood := by
  rw [State.allocated, State.allocate_frame, State.computeMaxima_frame]
  exact s.abortAtSlot1_setupGood

@[simp] theorem State.handStatus_drive (s : State) : s.handStatus.drive = s.drive := by rw [s.handStatus_served.1]

@[simp] theorem State.handStatus_coils (s : State) : s.handStatus.coils = s.coils := by rw [s.handStatus_served.1]

@[simp] theorem State.handStatus_alloc (s : State) : s.handStatus.alloc = s.alloc := by rw [s.handStatus_served.1]

/-- R64: the hand-over reads the figures. -/
theorem State.handOver_startDrive_alloc (s : State) : s.handOver.startDrive.alloc = s.alloc := by
  have handed : s.handOver.startDrive.alloc = s.decideLock.setFrequency.setDensities.handStatus.alloc := rfl
  have densities : s.decideLock.setFrequency.setDensities.alloc = s.decideLock.setFrequency.alloc := rfl
  rw [handed, State.handStatus_alloc, densities, State.setFrequency_alloc, State.decideLock_alloc]

/-- R94, R99, R108: of a record the hand-over and the start of the drive change the held, heating and driven flags. -/
theorem State.handOver_startDrive_coil (s : State) (i : CoilIx) :
    s.handOver.startDrive.coils.get i =
      { s.coils.get i with
        held := (s.decideLock.coils.get i).held
        heating := (s.handOver.startDrive.coils.get i).heating
        drivenInWindow := (s.handOver.startDrive.coils.get i).drivenInWindow } := by
  have started : s.handOver.startDrive.coils.get i =
      { s.decideLock.setFrequency.setDensities.coils.get i with
        drivenInWindow := (s.handOver.startDrive.coils.get i).drivenInWindow } := by
    simp [State.startDrive, State.handOver]
  rw [started, State.setDensities_coil, State.setFrequency_coils, State.decideLock_coil]

/-! ### Grants (R74 to R78) -/

theorem moduleGrant_le (limit demand sum : Nat) : moduleGrant limit demand sum ≤ demand := by
  unfold moduleGrant
  split
  · exact le_rfl
  · exact Nat.div_le_of_le_mul (Nat.mul_le_mul_right _ (by omega))

/-- Parts of a sum rounded down stay within it. -/
theorem Eight.sum_div_le (a : Eight Nat) (b c : Nat) : (Eight.ofFn fun i => a.get i * b / c).sum ≤ a.sum * b / c := by
  have step (l : List Nat) : (l.map fun x => x * b / c).sum ≤ l.sum * b / c := by
    induction l with
    | nil => simp
    | cons x l ih =>
      rw [List.map_cons, List.sum_cons, List.sum_cons, Nat.add_mul]
      exact (Nat.add_le_add_left ih _).trans Nat.div_add_div_le_add_div
  exact step a.toList

/-- R20: a coil that is not fitted has no effective maximum. -/
theorem effectiveMaximum_unfitted (su : CoilSetup) {c : Coil} (h : c.fitted = false) : effectiveMaximum su c = 0 := by
  simp [effectiveMaximum, h]

/-- R71, R73: the coil demands sum to no more than the effective maxima of the fitted coils. -/
structure Allocator.WithinDemand (a : Allocator) (coils : Eight Coil) : Prop where
  grants : a.grant.sum ≤ a.moduleGrant
  grant : a.moduleGrant ≤ a.moduleDemand
  demand : a.moduleDemand ≤ a.demand.sum
  maxima : a.demand.sum ≤ (coils.map fun c => c.effectiveMax).sum
  maximum : a.moduleDemand ≤ a.moduleMax

theorem Allocator.zero_within (coils : Eight Coil) : Allocator.zero.WithinDemand coils where
  grants := by decide
  grant := by decide
  demand := by decide
  maxima := Nat.zero_le _
  maximum := by decide

/-- R71 to R78: the figures from records whose unfitted coils have no effective maximum. -/
theorem State.figures_within {s : State} (unfitted : ∀ i, (s.coils.get i).fitted = false → (s.coils.get i).effectiveMax = 0) :
    s.figures.WithinDemand s.coils where
  grants := by
    by_cases none : s.figures.demand.sum = 0
    · have grant : s.figures.grant = Eight.fill 0 := Eight.ext_get fun i => by
        have : s.figures.grant.get i = if s.figures.demand.sum = 0 then 0
            else s.figures.demand.get i * s.figures.moduleGrant / s.figures.demand.sum := Eight.get_ofFn _ i
        rw [this, if_pos none, Eight.get_fill]
      rw [grant]
      exact Nat.zero_le _
    · have grant : s.figures.grant =
          Eight.ofFn fun i => s.figures.demand.get i * s.figures.moduleGrant / s.figures.demand.sum := Eight.ext_get fun i => by
        have : s.figures.grant.get i = if s.figures.demand.sum = 0 then 0
            else s.figures.demand.get i * s.figures.moduleGrant / s.figures.demand.sum := Eight.get_ofFn _ i
        rw [this, if_neg none, Eight.get_ofFn]
      rw [grant]
      exact (Eight.sum_div_le _ _ _).trans_eq (Nat.mul_div_cancel_left _ (Nat.pos_of_ne_zero none))
  grant := moduleGrant_le _ _ _
  demand := min_le_left _ _
  maxima := Eight.sum_le_sum fun i => by
    rw [Eight.get_map]
    exact (Eight.get_ofFn _ i).trans_le (min_le_right _ _)
  maximum := by
    refine min_le_min_right _ (Eight.sum_le_sum fun i => ?_)
    have capped := Eight.get_ofFn (fun i => if (s.coils.get i).fitted then (s.coils.get i).effectiveMax else 0) i
    have demand : s.figures.demand.get i ≤ (s.coils.get i).effectiveMax := (Eight.get_ofFn _ i).trans_le (min_le_right _ _)
    refine demand.trans (le_of_le_of_eq ?_ capped.symm)
    split
    · exact le_rfl
    · next h => exact (unfitted i (by simpa using h)).le

theorem State.allocate_within {s : State} (unfitted : ∀ i, (s.coils.get i).fitted = false → (s.coils.get i).effectiveMax = 0) :
    s.allocate.alloc.WithinDemand s.coils := by
  unfold State.allocate
  split
  · exact State.figures_within (s := s.computeShares) unfitted
  · exact Allocator.zero_within _

theorem State.computeMaxima_unfitted {s : State} (good : s.setupGood = true) (i : CoilIx)
    (unfitted : (s.computeMaxima.coils.get i).fitted = false) : (s.computeMaxima.coils.get i).effectiveMax = 0 := by
  rw [State.computeMaxima, if_pos good] at unfitted ⊢
  rw [Eight.get_mapIx] at unfitted ⊢
  exact effectiveMaximum_unfitted _ unfitted

/-- Settles O23: the figures are taken from the effective maxima that the same point computes. -/
theorem grantsStayWithinDemand : Obligations.GrantsStayWithinDemand := by
  intro s running raised good
  refine ⟨_, State.allocationPoint_raised running raised, ?_⟩
  have within : s.allocated.alloc.WithinDemand s.allocated.coils := by
    have coils : s.allocated.coils = State.coils (State.computeMaxima
        { s.abortAtSlot1 with timebase := { s.abortAtSlot1.timebase with allocationRaised := false } }) := by
      rw [State.allocated, State.allocate_frame]
    rw [coils]
    exact State.allocate_within (State.computeMaxima_unfitted (s.abortAtSlot1_setupGood.trans good))
  have coils : (s.allocationPoint.coils.map fun c => c.effectiveMax) = s.allocated.coils.map fun c => c.effectiveMax :=
    Eight.ext_get fun i => by
      rw [Eight.get_map, Eight.get_map, State.allocationPoint_eq, State.handOver_startDrive_coil]
  rw [coils, State.allocationPoint_eq, State.handOver_startDrive_alloc]
  exact ⟨within.grants, within.grant, within.demand, within.maxima, within.maximum⟩

end Sys2Proof.Machine

/-! PROOFS. What the hand-over decides (R97, R104 to R109): the lock of `t` and its frequency are those of the decision on the allocated
state `u`; the clauses of the statement are read off them. -/

namespace Sys2Proof.Machine

open Sys2Proof

/-! ### Masks -/

/-- R104: row r of a mask is the row's flag. -/
theorem inMask_rowMask (p : Row → Bool) (r : Row) : inMask (rowMask p) r = p r := by
  have bits (a b c d : Bool) (r : Row) :
      inMask (BitVec.ofNat 4 (flag a 1 + flag b 2 + flag c 4 + flag d 8)) r = [a, b, c, d].getD r.val false := by
    revert a b c d r
    decide
  rw [rowMask, bits]
  fin_cases r <;> rfl

theorem inMask_and (a b : BitVec 4) (r : Row) : inMask (a &&& b) r = (inMask a r && inMask b r) := by
  simp [inMask]

theorem mask_ne_zero_iff (m : BitVec 4) : m ≠ 0 ↔ ∃ r, inMask m r = true := by
  revert m
  decide

/-! ### The decision as it stands after the hand-over -/

/-- R97, R104 to R109: `t` holds the lock and the frequency that the hand-over decides in `u`. -/
structure State.LockedFrom (u t : State) : Prop where
  assigned : t.alloc.assigned = u.alloc.assigned
  floor : ∀ i, (t.coils.get i).floor = (u.coils.get i).floor
  held : ∀ i, (t.coils.get i).held = u.heldFlag u.roleDecision.1 i
  role : t.drive.role = u.roleDecision.1
  counter : t.drive.pendingCounter = u.roleDecision.2
  left : t.drive.leftMask = u.assignedLeft
  right : t.drive.rightMask = u.assignedRight
  contribution : t.drive.rightContribution = u.rightFloor
  lock : t.drive.lockFloor = u.computeLockFloor
  own : t.drive.ownFloor = t.computeOwnFloor
  chain : t.drive.chainFloor = max t.drive.ownFloor t.drive.rightContribution
  follows : t.drive.role = .following → t.drive.frequency = u.leaderFrequency
  stands : t.drive.role = .pending ∨ t.drive.role = .refused → t.drive.frequency = t.drive.chainFloor
  steers :
    t.drive.role = .free ∨ t.drive.role = .lost →
      ∃ n, (t.allHeld = false → n = maxOver 0 t.steering fun i => t.drive.rawDensity.get i) ∧
        t.drive.frequency =
          clampToChain t.drive.chainFloor (if t.noneAssigned then u.setup.startFrequency else stepFrequency n u.drive.frequency)

/-- R104 to R109: the figures of the lock and the frequency in `t` are those of `v`. -/
theorem State.computeOwnFloor_congr {s t : State} (assigned : t.alloc.assigned = s.alloc.assigned)
    (held : ∀ i, (t.coils.get i).held = (s.coils.get i).held) (floor : ∀ i, (t.coils.get i).floor = (s.coils.get i).floor) :
    t.computeOwnFloor = s.computeOwnFloor := by
  simp only [State.computeOwnFloor, assigned, held, floor]

theorem State.steering_congr {s t : State} (assigned : t.alloc.assigned = s.alloc.assigned)
    (held : ∀ i, (t.coils.get i).held = (s.coils.get i).held) : t.steering = s.steering := by
  funext i
  simp only [State.steering, assigned, held]

/-- R93: the drive that the hand-over leaves, at the start of slot 1. -/
theorem State.handOver_startDrive_drive (u : State) :
    u.handOver.startDrive.drive =
      { u.decideLock.setFrequency.setDensities.drive with
        driven := u.handOver.startDrive.drive.driven
        highGate := Eight.fill false
        lowGate := Eight.fill false
        counter := 0 } := by
  have started : u.handOver.startDrive.drive =
      { u.handOver.drive with
        driven := u.handOver.startDrive.drive.driven, highGate := Eight.fill false, lowGate := Eight.fill false, counter := 0 } := rfl
  rw [started, State.handOver, State.handStatus_drive]

/-- R93: the lock of that drive is the one decided, its raw densities those of the grants, its frequency that of the role. -/
theorem State.handOver_startDrive_lock {u v : State} (good : u.setupGood = true) (hv : v = u.decideLock.rawDensities) {d : Drive}
    (hd : d = u.handOver.startDrive.drive) :
    (d.role = v.drive.role ∧ d.pendingCounter = v.drive.pendingCounter) ∧
      (d.leftMask = v.drive.leftMask ∧ d.rightMask = v.drive.rightMask) ∧ d.rightContribution = v.drive.rightContribution ∧
      (d.lockFloor = v.drive.lockFloor ∧ d.ownFloor = v.drive.ownFloor ∧ d.chainFloor = v.drive.chainFloor) ∧
      d.rawDensity = v.drive.rawDensity ∧ d.frequency = v.frequencyByRole := by
  rw [hd, u.handOver_startDrive_drive, u.decideLock.setFrequency_good (by simpa using good), hv]
  exact ⟨⟨rfl, rfl⟩, ⟨rfl, rfl⟩, rfl, ⟨rfl, rfl, rfl⟩, rfl, rfl⟩

/-- R97, R109: the frequency of the roles that steer, by n*. -/
theorem State.frequencyByRole_steers {s : State} (h : s.drive.role = .free ∨ s.drive.role = .lost) :
    s.frequencyByRole = s.steeredFrequency := by
  rcases h with h | h <;> simp [State.frequencyByRole, h]

theorem State.frequencyByRole_stands {s : State} (h : s.drive.role = .pending ∨ s.drive.role = .refused) :
    s.frequencyByRole = s.drive.chainFloor := by
  rcases h with h | h <;> simp [State.frequencyByRole, h]

/-- R93 to R109: the hand-over after a good setup. -/
theorem State.handOver_locked {u : State} (good : u.setupGood = true) : u.LockedFrom u.handOver.startDrive := by
  obtain ⟨⟨role, counter⟩, ⟨left, right⟩, contribution, ⟨lock, own, chain⟩, raw, frequency⟩ :=
    State.handOver_startDrive_lock good rfl rfl
  have coil := u.handOver_startDrive_coil
  have decided := State.decideLock_good good
  have held : ∀ i, (u.handOver.startDrive.coils.get i).held = (u.decideLock.coils.get i).held := fun i => by rw [coil]
  have floor : ∀ i, (u.handOver.startDrive.coils.get i).floor = (u.decideLock.coils.get i).floor := fun i => by
    rw [coil, State.decideLock_floor]
  have assigned : u.handOver.startDrive.alloc.assigned = u.decideLock.rawDensities.alloc.assigned := by
    rw [u.handOver_startDrive_alloc]
    exact congrArg Allocator.assigned u.decideLock_alloc.symm
  have steering : u.handOver.startDrive.steering = u.decideLock.rawDensities.steering := State.steering_congr assigned held
  have none : u.handOver.startDrive.noneAssigned = u.decideLock.rawDensities.noneAssigned := by
    simp only [State.noneAssigned, assigned]
  have allHeld : u.handOver.startDrive.allHeld = u.decideLock.rawDensities.allHeld := by simp only [State.allHeld, none, steering]
  have ownFloor : u.handOver.startDrive.computeOwnFloor = u.decideLock.computeOwnFloor := State.computeOwnFloor_congr assigned held floor
  have decidedRole : u.decideLock.drive.role = u.roleDecision.1 := congrArg (fun v : State => v.drive.role) decided
  exact
    { assigned := congrArg Allocator.assigned u.handOver_startDrive_alloc
      floor := fun i => (floor i).trans (u.decideLock_floor i)
      held := fun i => (held i).trans (by
        rw [decided]
        exact congrArg Coil.held (Eight.get_mapIx _ _ i))
      role := role.trans decidedRole
      counter := counter.trans (congrArg (fun v : State => v.drive.pendingCounter) decided)
      left := left.trans (congrArg (fun v : State => v.drive.leftMask) decided)
      right := right.trans (congrArg (fun v : State => v.drive.rightMask) decided)
      contribution := contribution.trans (congrArg (fun v : State => v.drive.rightContribution) decided)
      lock := lock.trans (congrArg (fun v : State => v.drive.lockFloor) decided)
      own := own.trans ((congrArg (fun v : State => v.drive.ownFloor) decided).trans ownFloor.symm)
      chain := by
        rw [chain, own, contribution]
        have chained := congrArg (fun v : State => v.drive.chainFloor) decided
        have owned := congrArg (fun v : State => v.drive.ownFloor) decided
        have contributed := congrArg (fun v : State => v.drive.rightContribution) decided
        exact chained.trans (congrArg₂ max owned.symm contributed.symm)
      follows := fun h => by
        rw [frequency, State.frequencyByRole_following (role.symm.trans h)]
        exact u.decideLock_leaderFrequency
      stands := fun h => by
        rw [frequency, State.frequencyByRole_stands (by rwa [← role]), chain]
      steers := fun h => by
        refine ⟨u.decideLock.rawDensities.nStar, fun free => ?_, ?_⟩
        · rw [State.nStar, ← allHeld, free, steering, raw]
          rfl
        · rw [frequency, State.frequencyByRole_steers (by rwa [← role]), State.steeredFrequency, none, chain]
          have before : u.decideLock.rawDensities.drive.frequency = u.drive.frequency := u.decideLock_frequency
          have setup : u.decideLock.rawDensities.setup = u.setup := u.decideLock_setup
          rw [before, setup] }

/-! ### The lock role and the held coils (R105 to R108) -/

section

variable {u : State} {st : Status}

/-- R105: the rows in which the leader holds an assigned coil beside one of this module. -/
theorem State.inMask_adjacentRows (heard : u.leader.content = some st) (near : u.leader.freshness ≠ .gone) (r : Row) :
    inMask u.adjacentRows r = true ↔ u.alloc.assigned.get (leftCoil r) = true ∧ inMask st.rightMask r = true := by
  have rows : u.adjacentRows = u.assignedLeft &&& st.rightMask := by
    unfold State.adjacentRows
    split
    · next gone => exact absurd gone near
    · next unheard _ => cases heard.symm.trans unheard
    · next same _ => rw [Option.some.inj (heard.symm.trans same)]
  rw [rows, inMask_and, State.assignedLeft, inMask_rowMask, Bool.and_eq_true]

theorem State.adjacent_iff (heard : u.leader.content = some st) (near : u.leader.freshness ≠ .gone) :
    (u.adjacentRows ≠ 0) ↔ ∃ r, u.alloc.assigned.get (leftCoil r) = true ∧ inMask st.rightMask r = true := by
  rw [mask_ne_zero_iff]
  exact exists_congr (State.inMask_adjacentRows heard near)

/-- R107: the row of Table 6-1 that applies. -/
theorem State.roleDecision_gone (gone : u.leader.freshness = .gone) : u.roleDecision = (.free, 0) := by
  simp [State.roleDecision, decideRole, gone]

theorem State.roleDecision_apart (apart : ¬u.adjacentRows ≠ 0) : u.roleDecision = (.free, 0) := by
  rw [State.roleDecision, decide_eq_false apart]
  cases u.leader.freshness <;> rfl

theorem State.roleDecision_adjacent (adjacent : u.adjacentRows ≠ 0) :
    u.roleDecision =
      decideRole u.leader.freshness true (u.computeLockFloor ≤ u.leaderFrequency) u.drive.role u.drive.pendingCounter := by
  rw [State.roleDecision, decide_eq_true adjacent]

theorem State.roleDecision_recent (recent : u.leader.freshness = .recent) (adjacent : u.adjacentRows ≠ 0) :
    u.roleDecision = (.lost, 0) := by
  simp [State.roleDecision_adjacent adjacent, decideRole, recent]

theorem State.roleDecision_matched (fresh : u.leader.freshness = .fresh) (adjacent : u.adjacentRows ≠ 0)
    (matched : u.computeLockFloor ≤ u.leaderFrequency) : u.roleDecision = (.following, 0) := by
  simp [State.roleDecision_adjacent adjacent, decideRole, fresh, matched]

theorem State.roleDecision_refused (fresh : u.leader.freshness = .fresh) (adjacent : u.adjacentRows ≠ 0)
    (unmatched : u.leaderFrequency < u.computeLockFloor)
    (h : u.drive.role = .refused ∨ u.drive.role = .pending ∧ 4 ≤ u.drive.pendingCounter) : u.roleDecision = (.refused, 4) := by
  rcases h with role | ⟨role, four⟩
  · simp [State.roleDecision_adjacent adjacent, decideRole, fresh, unmatched.not_ge, role]
  · simp [State.roleDecision_adjacent adjacent, decideRole, fresh, unmatched.not_ge, role, four.not_gt]

theorem State.roleDecision_pending (fresh : u.leader.freshness = .fresh) (adjacent : u.adjacentRows ≠ 0)
    (unmatched : u.leaderFrequency < u.computeLockFloor)
    (h : ¬(u.drive.role = .refused ∨ u.drive.role = .pending ∧ 4 ≤ u.drive.pendingCounter)) :
    u.roleDecision = (.pending, if u.drive.role = .pending then u.drive.pendingCounter + 1 else 1) := by
  obtain ⟨notRefused, few⟩ := not_or.1 h
  cases role : u.drive.role with
  | refused => exact absurd role notRefused
  | pending =>
    have below : u.drive.pendingCounter < 4 := Nat.lt_of_not_le fun four => few ⟨role, four⟩
    simp [State.roleDecision_adjacent adjacent, decideRole, fresh, unmatched.not_ge, role, below]
  | free => simp [State.roleDecision_adjacent adjacent, decideRole, fresh, unmatched.not_ge, role]
  | following => simp [State.roleDecision_adjacent adjacent, decideRole, fresh, unmatched.not_ge, role]
  | lost => simp [State.roleDecision_adjacent adjacent, decideRole, fresh, unmatched.not_ge, role]

/-- R108: right-column coils are never held. -/
theorem State.heldFlag_right (role : LockRole) {i : CoilIx} (h : 4 ≤ i.val) : u.heldFlag role i = false := by
  simp [State.heldFlag, h.not_gt]

theorem State.heldFlag_left (role : LockRole) (r : Row) :
    u.heldFlag role (leftCoil r) = heldAfter role (inMask u.adjacentRows r) (u.coils.get (leftCoil r)).held := by
  have left : (leftCoil r).val < 4 := r.isLt
  rw [State.heldFlag, dif_pos left]
  rfl

/-- R108: FREE and FOLLOWING hold no coil. -/
theorem State.heldFlag_released {role : LockRole} (h : role = .free ∨ role = .following) (i : CoilIx) : u.heldFlag role i = false := by
  unfold State.heldFlag
  split
  · rcases h with rfl | rfl <;> rfl
  · rfl

/-! ### The right contribution (R106) -/

theorem State.rightFloor_locked (heard : (u.rosterOf (rightNeighbour u.sup.position)).content = some st)
    (fresh : (u.rosterOf (rightNeighbour u.sup.position)).freshness = .fresh)
    (h : st.role = .following ∨ st.role = .pending ∨ st.role = .refused) : u.rightFloor = st.chainFloor := by
  simp only [State.rightFloor, heard, fresh]
  rcases h with h | h | h <;> simp [h]

theorem State.rightFloor_free
    (h : ∀ st, (u.rosterOf (rightNeighbour u.sup.position)).content = some st →
      (u.rosterOf (rightNeighbour u.sup.position)).freshness = .fresh → st.role = .free ∨ st.role = .lost) : u.rightFloor = 41 := by
  unfold State.rightFloor
  dsimp only
  split
  · next st fresh heard => rcases h st heard fresh with h | h <;> simp [h, Config.lowestFrequency]
  · rfl

/-- R106: the lock floor is the base, the right contribution or an assigned coil's floor. -/
theorem State.computeLockFloor_cases :
    u.computeLockFloor = 41 ∨ u.computeLockFloor = u.rightFloor ∨
      ∃ i, u.alloc.assigned.get i = true ∧ u.computeLockFloor = (u.coils.get i).floor := by
  rcases maxOver_cases (max Config.lowestFrequency u.rightFloor) (fun i => u.alloc.assigned.get i) fun i => (u.coils.get i).floor with
    base | coil
  · rcases max_choice Config.lowestFrequency u.rightFloor with low | right
    · exact .inl (base.trans low)
    · exact .inr (.inl (base.trans right))
  · exact .inr (.inr coil)

theorem State.base_le_lockFloor : 41 ≤ u.computeLockFloor ∧ u.rightFloor ≤ u.computeLockFloor :=
  max_le_iff.1 (base_le_maxOver (max Config.lowestFrequency u.rightFloor) (fun i => u.alloc.assigned.get i) fun i => (u.coils.get i).floor)

theorem State.steering_iff (i : CoilIx) : u.steering i = true ↔ u.alloc.assigned.get i = true ∧ (u.coils.get i).held = false := by
  simp [State.steering]

/-- R106: the own floor is the base or the floor of an assigned coil that is not held. -/
theorem State.computeOwnFloor_cases :
    u.computeOwnFloor = 41 ∨
      ∃ i, u.alloc.assigned.get i = true ∧ (u.coils.get i).held = false ∧ u.computeOwnFloor = (u.coils.get i).floor := by
  rcases maxOver_cases Config.lowestFrequency u.steering fun i => (u.coils.get i).floor with base | ⟨i, steers, floor⟩
  · exact .inl base
  · obtain ⟨assigned, free⟩ := (u.steering_iff i).1 steers
    exact .inr ⟨i, assigned, free, floor⟩

theorem State.noneAssigned_iff : u.noneAssigned = true ↔ ∀ i, u.alloc.assigned.get i = false := by
  simp only [State.noneAssigned, Bool.not_eq_true', List.any_eq_false, Bool.not_eq_true]
  exact ⟨fun h i => h i (mem_allCoils i), fun h i _ => h i⟩

theorem State.allHeld_eq_false {i : CoilIx} (h : u.steering i = true) : u.allHeld = false := by
  have some : allCoils.any u.steering = true := List.any_eq_true.2 ⟨i, mem_allCoils i, h⟩
  simp [State.allHeld, some]

end

/-! ### The allocated state and the state before -/

/-- R20, R65: with no sweep in flight the allocation changes the shares, the figures and the effective maxima. -/
theorem State.allocated_frame {s : State} (idle : s.probe.sweep = none) :
    s.allocated =
      { s with
        timebase := s.allocated.timebase, coils := s.allocated.coils, tracker := s.allocated.tracker, alloc := s.allocated.alloc } := by
  have stays : s.abortAtSlot1 = s := by simp [State.abortAtSlot1, idle]
  rw [State.allocated, State.allocate_frame, State.computeMaxima_frame, stays]

theorem State.allocated_coil {s : State} (idle : s.probe.sweep = none) (i : CoilIx) :
    s.allocated.coils.get i = { s.coils.get i with effectiveMax := (s.allocated.coils.get i).effectiveMax } := by
  have stays : s.abortAtSlot1 = s := by simp [State.abortAtSlot1, idle]
  rw [State.allocated, State.allocate_frame, stays]
  unfold State.computeMaxima
  split
  · simp
  · rfl

/-! ### The clauses of the statement, of a decision `t` made in `u` -/

section

variable {u t : State} {st : Status} (d : u.LockedFrom t)

include d

theorem State.LockedFrom.masks (r : Row) :
    inMask t.drive.leftMask r = t.alloc.assigned.get (leftCoil r) ∧ inMask t.drive.rightMask r = t.alloc.assigned.get (rightCoil r) := by
  rw [d.left, d.right, d.assigned, State.assignedLeft, State.assignedRight, inMask_rowMask, inMask_rowMask]
  exact ⟨rfl, rfl⟩

theorem State.LockedFrom.lock_floor :
    41 ≤ t.drive.lockFloor ∧ t.drive.rightContribution ≤ t.drive.lockFloor ∧
      (∀ i, t.alloc.assigned.get i = true → (t.coils.get i).floor ≤ t.drive.lockFloor) ∧
      (t.drive.lockFloor = 41 ∨ t.drive.lockFloor = t.drive.rightContribution ∨
        ∃ i, t.alloc.assigned.get i = true ∧ t.drive.lockFloor = (t.coils.get i).floor) := by
  simp only [d.lock, d.contribution, d.assigned, d.floor]
  exact ⟨State.base_le_lockFloor.1, State.base_le_lockFloor.2, fun i => State.floor_le_lockFloor, State.computeLockFloor_cases⟩

theorem State.LockedFrom.own_floor :
    41 ≤ t.drive.ownFloor ∧
      (∀ i, t.alloc.assigned.get i = true → (t.coils.get i).held = false → (t.coils.get i).floor ≤ t.drive.ownFloor) ∧
      (t.drive.ownFloor = 41 ∨
        ∃ i, t.alloc.assigned.get i = true ∧ (t.coils.get i).held = false ∧ t.drive.ownFloor = (t.coils.get i).floor) := by
  rw [d.own]
  exact ⟨base_le_maxOver Config.lowestFrequency t.steering fun i => (t.coils.get i).floor, fun i => State.floor_le_ownFloor,
    State.computeOwnFloor_cases⟩

/-- R97, R109, Table 5-4: the frequency of FREE and LOST. -/
theorem State.LockedFrom.steered (h : t.drive.role = .free ∨ t.drive.role = .lost) :
    ((∀ i, t.alloc.assigned.get i = false) → t.drive.frequency = max t.drive.chainFloor (min 140 u.setup.startFrequency)) ∧
      ((∃ i, t.alloc.assigned.get i = true) →
        ∃ n,
          ((∃ i, t.alloc.assigned.get i = true ∧ (t.coils.get i).held = false) →
            (∃ i, t.alloc.assigned.get i = true ∧ (t.coils.get i).held = false ∧ t.drive.rawDensity.get i = n) ∧
              ∀ i, t.alloc.assigned.get i = true → (t.coils.get i).held = false → t.drive.rawDensity.get i ≤ n) ∧
          t.drive.frequency =
            max t.drive.chainFloor
              (min 140
                (if 30 ≤ n then u.drive.frequency - 4
                else if 16 ≤ n then u.drive.frequency - 1
                else if 12 ≤ n then u.drive.frequency
                else u.drive.frequency + 1))) := by
  obtain ⟨n, largest, frequency⟩ := d.steers h
  refine ⟨fun none => ?_, fun ⟨i, assigned⟩ => ⟨n, fun ⟨j, assigned, free⟩ => ?_, ?_⟩⟩
  · rw [frequency, State.noneAssigned_iff.2 none, if_pos rfl]
    rfl
  · have steers : t.steering j = true := (t.steering_iff j).2 ⟨assigned, free⟩
    have most := largest (State.allHeld_eq_false steers)
    have bound : ∀ i, t.steering i = true → t.drive.rawDensity.get i ≤ n := fun i hi =>
      most ▸ le_maxOver 0 t.steering (fun i => t.drive.rawDensity.get i) hi
    refine ⟨?_, fun i assigned free => bound i ((t.steering_iff i).2 ⟨assigned, free⟩)⟩
    rcases maxOver_cases 0 t.steering fun i => t.drive.rawDensity.get i with zero | ⟨i, hi, reached⟩
    · have low := bound j steers
      exact ⟨j, assigned, free, by omega⟩
    · obtain ⟨assigned, free⟩ := (t.steering_iff i).1 hi
      exact ⟨i, assigned, free, by omega⟩
  · have some : t.noneAssigned = false := Bool.eq_false_iff.2 fun none => by simp [State.noneAssigned_iff.1 none i] at assigned
    rw [frequency, some, if_neg Bool.false_ne_true]
    rfl

theorem State.LockedFrom.released (h : u.roleDecision = (.free, 0)) :
    t.drive.role = .free ∧ t.drive.pendingCounter = 0 ∧ ∀ i, (t.coils.get i).held = false := by
  refine ⟨by rw [d.role, h], by rw [d.counter, h], fun i => ?_⟩
  rw [d.held, h]
  exact State.heldFlag_released (.inl rfl) i

/-- R108: the held coils of the left column. -/
theorem State.LockedFrom.held_left (r : Row) :
    (t.coils.get (leftCoil r)).held =
      heldAfter u.roleDecision.1 (inMask u.adjacentRows r) (u.coils.get (leftCoil r)).held := by
  rw [d.held, State.heldFlag_left]

/-- R107, R108: the rows of Tables 6-1 and 6-2 for a leader that has been heard and is not gone. -/
theorem State.LockedFrom.leader_near (heard : u.leader.content = some st) (near : u.leader.freshness ≠ .gone) :
    (¬ (∃ r, t.alloc.assigned.get (leftCoil r) = true ∧ inMask st.rightMask r = true) →
      t.drive.role = .free ∧ t.drive.pendingCounter = 0 ∧ ∀ i, (t.coils.get i).held = false) ∧
    ((∃ r, t.alloc.assigned.get (leftCoil r) = true ∧ inMask st.rightMask r = true) →
      (u.leader.freshness = .recent →
        t.drive.role = .lost ∧ t.drive.pendingCounter = 0 ∧
          ∀ r, (t.coils.get (leftCoil r)).held = true ↔
            t.alloc.assigned.get (leftCoil r) = true ∧ inMask st.rightMask r = true) ∧
      (u.leader.freshness = .fresh → t.drive.lockFloor ≤ st.frequency →
        t.drive.role = .following ∧ t.drive.pendingCounter = 0 ∧ t.drive.frequency = st.frequency ∧
          ∀ i, (t.coils.get i).held = false) ∧
      (u.leader.freshness = .fresh → st.frequency < t.drive.lockFloor →
        (if u.drive.role = .refused ∨ (u.drive.role = .pending ∧ 4 ≤ u.drive.pendingCounter) then
          t.drive.role = .refused ∧ t.drive.pendingCounter = 4 ∧
            ∀ r, (t.coils.get (leftCoil r)).held = true ↔
              t.alloc.assigned.get (leftCoil r) = true ∧ inMask st.rightMask r = true
        else
          t.drive.role = .pending ∧
            t.drive.pendingCounter = (if u.drive.role = .pending then u.drive.pendingCounter + 1 else 1) ∧
            ∀ r, (t.coils.get (leftCoil r)).held = true ↔
              (u.coils.get (leftCoil r)).held = true ∧ t.alloc.assigned.get (leftCoil r) = true ∧
                inMask st.rightMask r = true))) := by
  have leaderFrequency : u.leaderFrequency = st.frequency := by simp [State.leaderFrequency, heard]
  have beside := State.inMask_adjacentRows heard near
  rw [d.assigned, ← State.adjacent_iff heard near, d.lock, ← leaderFrequency]
  refine ⟨fun apart => d.released (State.roleDecision_apart apart), fun adjacent => ⟨fun recent => ?_, fun fresh matched => ?_,
    fun fresh unmatched => ?_⟩⟩
  · have decided := State.roleDecision_recent recent adjacent
    refine ⟨by rw [d.role, decided], by rw [d.counter, decided], fun r => ?_⟩
    rw [d.held_left, decided, ← beside]
    rfl
  · have decided := State.roleDecision_matched fresh adjacent matched
    have follows : t.drive.role = .following := by rw [d.role, decided]
    refine ⟨follows, by rw [d.counter, decided], d.follows follows, fun i => ?_⟩
    rw [d.held, decided]
    exact State.heldFlag_released (.inr rfl) i
  · split
    · next h =>
      have decided := State.roleDecision_refused fresh adjacent unmatched h
      refine ⟨by rw [d.role, decided], by rw [d.counter, decided], fun r => ?_⟩
      rw [d.held_left, decided, ← beside]
      rfl
    · next h =>
      have decided := State.roleDecision_pending fresh adjacent unmatched h
      refine ⟨by rw [d.role, decided], by rw [d.counter, decided], fun r => ?_⟩
      rw [d.held_left, decided, ← beside, ← Bool.and_eq_true]
      rfl

end

/-- Settles O27: the hand-over decides on the allocated state, which has the lock, the records and the neighbours of the state before. -/
theorem handOverDecidesTheLock : Obligations.HandOverDecidesTheLock := by
  intro s running raised run good idle
  have frame := State.allocated_frame idle
  have d := State.handOver_locked (s.allocated_setupGood.trans good)
  rw [← State.allocationPoint_eq] at d
  have link : s.allocated.link = s.link := by rw [frame]
  have sup : s.allocated.sup = s.sup := by rw [frame]
  have drive : s.allocated.drive = s.drive := by rw [frame]
  have setup : s.allocated.setup = s.setup := by rw [frame]
  have leader : s.allocated.leader = s.leader := by simp only [State.leader, State.rosterOf, link, sup]
  have right : s.allocated.rosterOf (rightNeighbour s.allocated.sup.position) = s.rosterOf (rightNeighbour s.sup.position) := by
    simp only [State.rosterOf, link, sup]
  have floor : ∀ i, (s.allocationPoint.coils.get i).floor = (s.coils.get i).floor := fun i => by
    rw [d.floor, State.allocated_coil idle]
  have heldBefore : ∀ i, (s.allocated.coils.get i).held = (s.coils.get i).held := fun i => by rw [State.allocated_coil idle]
  refine ⟨_, State.allocationPoint_raised running raised, fun r => (d.masks r).1, fun r => (d.masks r).2,
    ⟨fun st heard fresh locked => ?_, fun free => ?_⟩, floor, d.lock_floor, d.own_floor, d.chain, d.stands, fun h => ?_,
    fun i column => (d.held i).trans (State.heldFlag_right _ column), fun gone => ?_, fun st heard near => ?_⟩
  · rw [d.contribution, State.rightFloor_locked (by rw [right]; exact heard) (by rw [right]; exact fresh) locked]
  · rw [d.contribution, State.rightFloor_free (by rw [right]; exact free)]
  · have steered := d.steered h
    rwa [setup, drive] at steered
  · exact d.released (State.roleDecision_gone (by rw [leader]; exact gone))
  · have near' := d.leader_near (st := st) (by rw [leader]; exact heard) (by rw [leader]; exact near)
    simp only [leader, drive, heldBefore] at near'
    exact near'

end Sys2Proof.Machine

/-! PROOFS. The steps of the tracking update that tag a component (R29 to R32, R22, Table 2-4) and that join the components of a tag
(R34), step by step, for O20. -/

namespace Sys2Proof.Machine

open Sys2Proof

/-! ### The best of a list -/

/-- A fold that keeps the better of its two arguments ends at an element no other betters. -/
theorem foldl_best {α : Type} {f : α → α → α} {R : α → α → Prop} (refl : ∀ a, R a a)
    (trans : ∀ a b c, R a b → R b c → R a c) (left : ∀ a b, R (f a b) a) (right : ∀ a b, R (f a b) b) (a : α) (l : List α) :
    ∀ x ∈ a :: l, R (l.foldl f a) x := by
  induction l generalizing a with
  | nil => simpa using refl a
  | cons b l ih =>
    intro x hx
    rw [List.foldl_cons]
    have head := ih (f a b) (f a b) List.mem_cons_self
    rcases List.mem_cons.1 hx with rfl | hx
    · exact trans _ _ _ head (left _ _)
    · rcases List.mem_cons.1 hx with rfl | hx
      · exact trans _ _ _ head (right _ _)
      · exact ih (f a b) x (List.mem_cons_of_mem _ hx)

theorem tagLower_iff {a b : Tag} : a.lower b = true ↔ a.code < b.code := by simp [Sys2Proof.Tag.lower]

/-! ### Facing and touching (R29, R32) -/

theorem leftNeighbour_eq_some {p q : Position} : leftNeighbour p = some q ↔ p.val = q.val + 1 := by
  unfold leftNeighbour
  split
  · simp only [reduceCtorEq, false_iff]; omega
  · simp only [Option.some.injEq, Fin.ext_iff]; omega

theorem rightNeighbour_eq_some {p q : Position} : rightNeighbour p = some q ↔ q.val = p.val + 1 := by
  unfold rightNeighbour
  split
  · simp only [Option.some.injEq, Fin.ext_iff]; omega
  · simp only [reduceCtorEq, false_iff]; omega

theorem mem_allRows (r : Row) : r ∈ allRows := by fin_cases r <;> decide

/-- R29, R32: a report faces the coils of a set that pass the module's own test. -/
theorem facesReport_iff (position : Position) (own : CoilIx → Bool) (set : List CoilIx) (e : PeerEntry) :
    facesReport position own set e = true ↔ Faces position (set.filter own) e := by
  unfold facesReport Faces
  simp only [Bool.and_eq_true, Bool.or_eq_true, decide_eq_true_eq, List.any_eq_true, mem_allRows, true_and, List.mem_filter,
    leftNeighbour_eq_some, rightNeighbour_eq_some, List.contains_iff_mem, exists_or, exists_and_left, and_assoc]
  rfl

theorem facesReport_all (position : Position) (set : List CoilIx) (e : PeerEntry) :
    facesReport position (fun _ => true) set e = true ↔ Faces position set e := by
  rw [facesReport_iff, List.filter_eq_self.2 fun _ _ => rfl]

/-! ### Step 3 (R29) -/

/-- R29: a report is no worse an offer than another. -/
def Report.OffersOver (a b : Report) : Prop :=
  (b.published ≠ none → a.published ≠ none) ∧ ((b.published = none ↔ a.published = none) → a.tag.code ≤ b.tag.code)

theorem Report.OffersOver.trans {a b c : Report} (h : a.OffersOver b) (h' : b.OffersOver c) : a.OffersOver c := by
  unfold Report.OffersOver at *
  grind

theorem betterOffer_offers (a b : Report) : (betterOffer a b).OffersOver a ∧ (betterOffer a b).OffersOver b := by
  unfold betterOffer Report.OffersOver
  split_ifs with ahead behind low <;> cases ha : a.published <;> cases hb : b.published <;> simp_all [tagLower_iff] <;> omega

theorem foldl_betterOffer_best (r : Report) (rs : List Report) : ∀ x ∈ r :: rs, (rs.foldl betterOffer r).OffersOver x :=
  foldl_best (R := Report.OffersOver) (fun _ => ⟨id, fun _ => le_rfl⟩) (fun _ _ _ => Report.OffersOver.trans) (fun a b => (betterOffer_offers a b).1)
    (fun a b => (betterOffer_offers a b).2) r rs

theorem neighbourEdge_edgeTagged (position : Position) (peers : List PeerEntry) (c : Component) :
    c.EdgeTagged (neighbourEdge position peers c) position peers := by
  have facing (e : PeerEntry) :
      e ∈ peers.filter (facesReport position (fun _ => true) c.coils) ↔ e ∈ peers ∧ Faces position c.coils e := by
    rw [List.mem_filter, facesReport_all]
  unfold neighbourEdge
  cases tag : c.tag with
  | some t => exact ⟨fun _ => rfl, fun h => absurd (tag.symm.trans h) (by simp)⟩
  | none =>
    dsimp only
    cases hr : (peers.filter (facesReport position (fun _ => true) c.coils)).map (·.report) with
    | nil =>
      refine ⟨fun _ => rfl, fun _ ⟨e, he, faces⟩ => ?_⟩
      have := (facing e).2 ⟨he, faces⟩
      simp [List.map_eq_nil_iff.1 hr] at this
    | cons r rs =>
      have mem (x : Report) : x ∈ r :: rs ↔ ∃ e ∈ peers, Faces position c.coils e ∧ e.report = x := by
        rw [← hr, List.mem_map]
        simp only [facing, and_assoc]
      obtain ⟨e, he, faces, eq⟩ := (mem _).1 (foldl_choice_mem betterOffer_choice r rs)
      refine ⟨?_, fun _ _ => ⟨e, he, faces, by rw [eq], fun x hx hf => ?_⟩⟩
      · rintro (h | h)
        · exact absurd tag h
        · exact absurd faces (h e he)
      · rw [eq]
        exact foldl_betterOffer_best r rs _ ((mem _).2 ⟨x, hx, hf, rfl⟩)

end Sys2Proof.Machine

/-! PROOFS. The steps of the tracking update that resume a lifted entry (R30) and create a tag (R22, R31). -/

namespace Sys2Proof.Machine

open Sys2Proof

/-! ### Step 4 (R30) -/

theorem sharedCoils_eq (a b : List CoilIx) : sharedCoils a b = (a.filter fun i => decide (i ∈ b)).length := by
  simp [sharedCoils]

theorem sharedCoils_pos {a b : List CoilIx} : 0 < sharedCoils a b ↔ ∃ i ∈ a, i ∈ b := by
  simp [sharedCoils, List.length_pos_iff, List.filter_eq_nil_iff]

/-- R30: an entry is no worse to resume than another. -/
def LiftedEntry.ResumesOver (set : List CoilIx) (e x : LiftedEntry) : Prop :=
  sharedCoils x.footprint set < sharedCoils e.footprint set ∨
    sharedCoils x.footprint set = sharedCoils e.footprint set ∧
      (x.grace < e.grace ∨ x.grace = e.grace ∧ e.tag.code ≤ x.tag.code)

theorem LiftedEntry.ResumesOver.trans {set : List CoilIx} {a b c : LiftedEntry} (h : a.ResumesOver set b)
    (h' : b.ResumesOver set c) : a.ResumesOver set c := by
  unfold LiftedEntry.ResumesOver at *
  omega

theorem betterLifted_resumes (set : List CoilIx) (a b : LiftedEntry) :
    (betterLifted set a b).ResumesOver set a ∧ (betterLifted set a b).ResumesOver set b := by
  unfold betterLifted LiftedEntry.ResumesOver
  split_ifs <;> simp only [tagLower_iff, true_and] at * <;> omega

theorem foldl_betterLifted_best (set : List CoilIx) (e : LiftedEntry) (es : List LiftedEntry) :
    ∀ x ∈ e :: es, (es.foldl (betterLifted set) e).ResumesOver set x :=
  foldl_best (R := LiftedEntry.ResumesOver set) (fun _ => .inr ⟨rfl, .inr ⟨rfl, le_rfl⟩⟩)
    (fun _ _ _ => LiftedEntry.ResumesOver.trans) (fun a b => (betterLifted_resumes set a b).1)
    (fun a b => (betterLifted_resumes set a b).2) e es

/-- R30: what a coil set resumes is the best of the entries that share a coil. -/
theorem resumable_best {lifted : List LiftedEntry} {set : List CoilIx} {e : LiftedEntry} (h : resumable lifted set = some e) :
    ∀ x ∈ lifted, e.ResumesOver set x := by
  have shares := (resumable_mem h).2
  unfold resumable at h
  split at h
  · simp at h
  · rename_i g gs eq
    obtain rfl := Option.some.inj h
    intro x hx
    by_cases hs : 0 < sharedCoils x.footprint set
    · exact foldl_betterLifted_best set g gs x (eq ▸ List.mem_filter.2 ⟨hx, by simpa using hs⟩)
    · exact .inl (by omega)

theorem resumable_none {lifted : List LiftedEntry} {set : List CoilIx} :
    resumable lifted set = none ↔ ∀ e ∈ lifted, sharedCoils e.footprint set = 0 := by
  unfold resumable
  split
  · rename_i eq
    simpa [List.filter_eq_nil_iff] using eq
  · rename_i e es eq
    have mem : e ∈ lifted.filter fun e => 0 < sharedCoils e.footprint set := eq ▸ List.mem_cons_self
    obtain ⟨he, shares⟩ := List.mem_filter.1 mem
    simp only [reduceCtorEq, false_iff, not_forall]
    exact ⟨e, he, by simpa using Nat.ne_of_gt (by simpa using shares)⟩

theorem resumeOne_resumedTo (t : Tagging) (c : Component) : t.ResumedTo (resumeOne t c) c := by
  unfold Tagging.ResumedTo
  simp only [← sharedCoils_eq]
  unfold resumeOne
  cases tag : c.tag with
  | some u => exact ⟨fun _ => rfl, fun h => by simp at h⟩
  | none =>
    dsimp only
    cases hr : resumable t.lifted c.coils with
    | none =>
      refine ⟨fun _ => rfl, fun _ ⟨e, he, shares⟩ => ?_⟩
      exact absurd (resumable_none.1 hr e he) (Nat.ne_of_gt shares)
    | some e =>
      obtain ⟨he, shares⟩ := resumable_mem hr
      refine ⟨?_, fun _ _ => ⟨e, he, shares, resumable_best hr, by simp⟩⟩
      rintro (h | h)
      · exact absurd rfl h
      · exact absurd (h e he) (Nat.ne_of_gt shares)

/-! ### Step 5 (R22, R31) -/

/-- R22: the serials after one another, up to twelve of them, count up from the first, past 4095 from 1. -/
theorem iterate_nextSerial (s : Fin 4096) {n : Nat} (hn : n ≤ 12) :
    (nextSerial^[n] s).val = if s.val + n ≤ 4095 then s.val + n else s.val + n - 4095 := by
  induction n with
  | zero => simp; omega
  | succ n ih =>
    have ih := ih (by omega)
    rw [Function.iterate_succ_apply', nextSerial]
    have := s.isLt
    split_ifs at ih ⊢ with top <;> simp only [Fin.val_add, Fin.val_one, ih] at * <;> omega

/-- R22: the search ends at the first serial that is not used, where one of those it tests is free. -/
theorem freeSerial_cases (used : Fin 4096 → Bool) (n : Nat) (s : Fin 4096) :
    (∃ m < n, used (nextSerial^[m] s) = false ∧ (∀ k < m, used (nextSerial^[k] s) = true) ∧
      freeSerial used n s = nextSerial^[m] s) ∨
    ∀ k < n, used (nextSerial^[k] s) = true := by
  induction n generalizing s with
  | zero => exact .inr (by simp)
  | succ n ih =>
    unfold freeSerial
    cases hs : used s with
    | false => exact .inl ⟨0, by omega, hs, by simp, by simp⟩
    | true =>
      rcases ih (nextSerial s) with ⟨m, hm, free, before, eq⟩ | all
      · refine .inl ⟨m + 1, by omega, free, fun k hk => ?_, by simpa using eq⟩
        cases k with
        | zero => exact hs
        | succ k => exact before k (by omega)
      · refine .inr fun k hk => ?_
        cases k with
        | zero => exact hs
        | succ k => exact all k (by omega)

/-- The tags held by the previous table, the components and the lifted list. -/
def heldTags (previous : List Fragment) (comps : List Component) (lifted : List LiftedEntry) : List Tag :=
  (previous.map fun f => f.tag) ++ (comps.filterMap fun d => d.tag) ++ lifted.map fun e => e.tag

theorem mem_heldTags {previous : List Fragment} {comps : List Component} {lifted : List LiftedEntry} {x : Tag} :
    x ∈ heldTags previous comps lifted ↔
      (∃ f ∈ previous, f.tag = x) ∨ (∃ d ∈ comps, d.tag = some x) ∨ ∃ e ∈ lifted, e.tag = x := by
  simp [heldTags]

theorem tagInUse_iff {previous : List Fragment} {comps : List Component} {lifted : List LiftedEntry} {x : Tag} :
    tagInUse previous comps lifted x = true ↔ x ∈ heldTags previous comps lifted := by
  simp [tagInUse, mem_heldTags, or_assoc]

/-- R22: where at most eleven tags are held, one of twelve serials in a row is free. -/
theorem exists_free {held : List Tag} (few : held.length ≤ 11) (position : Position) (s : Fin 4096) :
    ¬ ∀ k < 12, ({ creator := position, serial := nextSerial^[k] s } : Tag) ∈ held := by
  intro all
  have nodup : ((List.range 12).map fun k => ({ creator := position, serial := nextSerial^[k] s } : Tag)).Nodup := by
    refine List.Nodup.map_on (fun j hj k hk eq => ?_) List.nodup_range
    rw [List.mem_range] at hj hk
    have := congrArg (fun t : Tag => t.serial.val) eq
    simp only [iterate_nextSerial s (Nat.le_of_lt hj), iterate_nextSerial s (Nat.le_of_lt hk)] at this
    have := s.isLt
    split_ifs at * <;> omega
  have sub : ((List.range 12).map fun k => ({ creator := position, serial := nextSerial^[k] s } : Tag)) ⊆ held := by
    intro x hx
    obtain ⟨k, hk, rfl⟩ := List.mem_map.1 hx
    exact all k (List.mem_range.1 hk)
  have := (List.subperm_of_subset nodup sub).length_le
  simp at this
  omega

theorem newTagOne_newTagTo (position : Position) (previous : List Fragment) (rest : List Component) (t : Tagging)
    (c : Component) : t.NewTagTo (newTagOne position previous rest t c) position previous rest c := by
  unfold Tagging.NewTagTo
  simp only [← mem_heldTags, show serialAfter = nextSerial from rfl]
  unfold newTagOne
  cases tag : c.tag with
  | some u => exact ⟨fun _ => rfl, fun h => by simp at h⟩
  | none =>
    refine ⟨fun h => absurd rfl h, fun _ few => ?_⟩
    have few : (heldTags previous (t.comps ++ rest) t.lifted).length ≤ 11 := by
      simpa [heldTags, Nat.add_assoc] using few
    rcases freeSerial_cases
        (fun s => tagInUse previous (t.comps ++ rest) t.lifted { creator := position, serial := s }) 12 t.serial with
      ⟨n, hn, free, before, eq⟩ | all
    · refine ⟨n, by omega, ?_, fun m hm => tagInUse_iff.1 (before m hm), ?_⟩
      · rw [← tagInUse_iff]
        simpa using free
      · dsimp only
        rw [eq]
    · exact absurd (fun k hk => tagInUse_iff.1 (all k hk)) (exists_free few position t.serial)

end Sys2Proof.Machine

/-! PROOFS. Step 6 of the tracking update (R32, R33, Table 2-4) and step 7 (R34). -/

namespace Sys2Proof.Machine

open Sys2Proof

/-! ### Step 6 (R32, R33, Table 2-4) -/

theorem mem_touchedReports {position : Position} {coils : Eight Coil} {peers : List PeerEntry} {c : Component} {r : Report} :
    r ∈ touchedReports position coils peers c ↔ ∃ e, (e ∈ peers ∧ Touches position coils c.tag c.coils e) ∧ e.report = r := by
  unfold touchedReports Touches
  simp only [List.mem_filter, List.mem_map, facesReport_iff, decide_eq_true_eq]
  constructor
  · rintro ⟨⟨e, ⟨he, faces⟩, rfl⟩, other⟩
    exact ⟨e, ⟨he, by simpa using other, faces⟩, rfl⟩
  · rintro ⟨e, ⟨he, other, faces⟩, rfl⟩
    exact ⟨⟨e, ⟨he, faces⟩, rfl⟩, by simpa using other⟩

theorem lowestTag_mem (t : Tag) (ts : List Tag) : lowestTag t ts ∈ t :: ts :=
  foldl_choice_mem (fun a b => by split_ifs <;> simp) t ts

theorem lowestTag_le (t : Tag) (ts : List Tag) : ∀ x ∈ t :: ts, (lowestTag t ts).code ≤ x.code :=
  foldl_best (R := fun a b : Tag => a.code ≤ b.code) (fun _ => le_rfl) (fun _ _ _ => le_trans)
    (fun a b => by split_ifs with h <;> simp only [tagLower_iff] at h <;> omega)
    (fun a b => by split_ifs with h <;> simp only [tagLower_iff] at h <;> omega) t ts

/-- R33: a component with a program keeps its tag. -/
theorem seniority_of_program {touched : List Report} {own : Tag} {c : Component} (h : c.program ≠ none) :
    seniority touched own c = { c with contact := !(touched.filter fun r => r.published.isSome).isEmpty } := by
  simp [seniority, Option.isSome_iff_ne_none.2 h]

/-- Table 2-4: one without takes the lowest tag of the touched reports that carry a program. -/
theorem seniority_of_offer {touched : List Report} {own : Tag} {c : Component} (h : c.program = none) {r : Report}
    {rs : List Report} (offer : (touched.filter fun r => r.published.isSome) = r :: rs) :
    seniority touched own c = adoptTag (lowestTag r.tag (rs.map (·.tag))) { c with contact := false } := by
  simp [seniority, h, offer]

/-- Table 2-4: where none carries a program the lowest tag of all holds, the own one among them. -/
theorem seniority_of_silence {touched : List Report} {own : Tag} {c : Component} (h : c.program = none)
    (silent : (touched.filter fun r => r.published.isSome) = []) :
    seniority touched own c =
      if lowestTag own (touched.map (·.tag)) = own then { c with contact := false }
      else adoptTag (lowestTag own (touched.map (·.tag))) { c with contact := false } := by
  simp [seniority, h, silent]

/-- R32, R33, Table 2-4. -/
theorem seniority_seniorTo {touched : List Report} {T : PeerEntry → Prop} (ht : ∀ r, r ∈ touched ↔ ∃ e, T e ∧ e.report = r)
    {own : Tag} {c : Component} (tag : c.tag = some own) : c.SeniorTo (seniority touched own c) own T := by
  have carrying (r : Report) :
      r ∈ (touched.filter fun r => r.published.isSome) ↔ ∃ e, T e ∧ e.report.published ≠ none ∧ e.report = r := by
    rw [List.mem_filter, ht, Option.isSome_iff_ne_none]
    grind
  have offers : (touched.filter fun r => r.published.isSome).isEmpty = false ↔ ∃ e, T e ∧ e.report.published ≠ none := by
    rw [List.isEmpty_eq_false_iff_exists_mem]
    simp only [carrying]
    grind
  by_cases hp : c.program = none
  · cases hw : touched.filter fun r => r.published.isSome with
    | cons r rs =>
      rw [hw] at carrying
      have best := lowestTag_le r.tag (rs.map (·.tag))
      have mem := lowestTag_mem r.tag (rs.map (·.tag))
      rw [seniority_of_offer hp hw]
      generalize lowestTag r.tag (rs.map (·.tag)) = lowest at best mem
      rw [← List.map_cons (f := fun r : Report => r.tag)] at best mem
      obtain ⟨x, hx, eq⟩ := List.mem_map.1 mem
      obtain ⟨e, he, publishes, rfl⟩ := (carrying x).1 hx
      refine ⟨fun h => absurd hp h, fun _ _ => ⟨rfl, e, he, publishes, congrArg some eq.symm, fun y hy hpub => ?_⟩,
        fun _ none => absurd (none e he) publishes, by simp [adoptTag, hp], ⟨rfl, rfl, rfl⟩⟩
      rw [eq]
      exact best _ (List.mem_map_of_mem ((carrying _).2 ⟨y, hy, hpub, rfl⟩))
    | nil =>
      have silent : ¬ ∃ e, T e ∧ e.report.published ≠ none := by simp [← offers, hw]
      have best := lowestTag_le own (touched.map (·.tag))
      have mem := lowestTag_mem own (touched.map (·.tag))
      rw [seniority_of_silence hp hw]
      generalize lowestTag own (touched.map (·.tag)) = lowest at best mem
      have among : lowest = own ∨ ∃ e, T e ∧ e.report.tag = lowest := by
        rcases List.mem_cons.1 mem with h | h
        · exact .inl h
        · obtain ⟨r, hr, rfl⟩ := List.mem_map.1 h
          obtain ⟨e, he, rfl⟩ := (ht r).1 hr
          exact .inr ⟨e, he, rfl⟩
      have least (e : PeerEntry) (he : T e) : lowest.code ≤ e.report.tag.code :=
        best _ (List.mem_cons_of_mem _ (List.mem_map_of_mem ((ht _).2 ⟨e, he, rfl⟩)))
      refine ⟨fun h => absurd hp h, fun _ h => absurd h silent,
        fun _ _ => ⟨lowest, ?_, among, best _ List.mem_cons_self, least, ?_⟩, ?_, ?_⟩
      · split_ifs with h
        · exact h ▸ tag
        · rfl
      · split_ifs <;> rfl
      · split_ifs <;> simp [adoptTag, hp]
      · split_ifs <;> exact ⟨rfl, rfl, rfl⟩
  · rw [seniority_of_program hp]
    refine ⟨fun _ => ⟨tag, rfl⟩, fun h => absurd h hp, fun h => absurd h hp, ?_, ⟨rfl, rfl, rfl⟩⟩
    simp only [Bool.not_eq_true', offers]
    exact ⟨fun h => ⟨hp, h⟩, fun h => h.2⟩

theorem seniorityOf_seniorTo (position : Position) (coils : Eight Coil) (peers : List PeerEntry) {c : Component} {own : Tag}
    (tag : c.tag = some own) :
    c.SeniorTo (seniorityOf position coils peers c) own fun e => e ∈ peers ∧ Touches position coils c.tag c.coils e := by
  have eq : seniorityOf position coils peers c = seniority (touchedReports position coils peers c) own c := by
    simp [seniorityOf, tag]
  rw [eq]
  exact seniority_seniorTo (fun r => mem_touchedReports) tag

/-! ### Step 7 (R34) -/

theorem idxOf_originOrder (o : Origin) : originOrder.idxOf o = o.rank := by cases o <;> rfl

/-- R34: the leading part comes before every part of its origin, and every part of an earlier origin. -/
theorem foldl_leadingPart_split (c : Component) (cs : List Component) :
    ∃ before after, c :: cs = before ++ cs.foldl leadingPart c :: after ∧
      (∀ x ∈ before, (cs.foldl leadingPart c).origin.rank < x.origin.rank) ∧
      ∀ x ∈ after, (cs.foldl leadingPart c).origin.rank ≤ x.origin.rank := by
  induction cs generalizing c with
  | nil => exact ⟨[], [], rfl, by simp, by simp⟩
  | cons d ds ih =>
    rw [List.foldl_cons]
    by_cases less : d.origin.rank < c.origin.rank
    · have eq : leadingPart c d = d := if_pos less
      rw [eq]
      obtain ⟨before, after, split, low, high⟩ := ih d
      have le : (ds.foldl leadingPart d).origin.rank ≤ d.origin.rank := by
        have : d ∈ before ++ ds.foldl leadingPart d :: after := split ▸ List.mem_cons_self
        simp only [List.mem_append, List.mem_cons] at this
        rcases this with h | h | h
        · exact (low _ h).le
        · rw [← h]
        · exact high _ h
      refine ⟨c :: before, after, by rw [split]; rfl, ?_, high⟩
      exact List.forall_mem_cons.2 ⟨by omega, low⟩
    · have eq : leadingPart c d = c := if_neg less
      rw [eq]
      obtain ⟨before, after, split, low, high⟩ := ih c
      cases before with
      | nil =>
        obtain ⟨lead, rest⟩ := List.cons.inj split
        refine ⟨[], d :: ds, by rw [← lead]; rfl, by simp, List.forall_mem_cons.2 ⟨?_, rest ▸ high⟩⟩
        rw [← lead]
        omega
      | cons b before =>
        obtain ⟨rfl, rest⟩ := List.cons.inj split
        have hc := low c List.mem_cons_self
        refine ⟨c :: d :: before, after, by simpa using rest, ?_, high⟩
        refine List.forall_mem_cons.2 ⟨hc, List.forall_mem_cons.2 ⟨by omega, fun x hx => low x (List.mem_cons_of_mem _ hx)⟩⟩

/-- R34: a joined fragment is made of the first component of its tag and the later ones. -/
theorem joinByTag_split {coils : Eight Coil} {previous : List Fragment} {seen : List Tag} {comps : List Component} {f : Fragment}
    (h : f ∈ joinByTag coils previous seen comps) :
    f.tag ∉ seen ∧ ∃ before c after, comps = before ++ c :: after ∧ c.tag = some f.tag ∧ (∀ x ∈ before, x.tag ≠ some f.tag) ∧
      f = joinComponents coils previous f.tag c (after.filter fun x => x.tag = some f.tag) := by
  induction comps generalizing seen with
  | nil => simp [joinByTag] at h
  | cons c cs ih =>
    have later {seen : List Tag} (other : c.tag = some f.tag → f.tag ∈ seen) (hf : f ∈ joinByTag coils previous seen cs) :
        ∃ before d after, c :: cs = before ++ d :: after ∧ d.tag = some f.tag ∧ (∀ x ∈ before, x.tag ≠ some f.tag) ∧
          f = joinComponents coils previous f.tag d (after.filter fun x => x.tag = some f.tag) := by
      obtain ⟨new, before, d, after, split, tag, first, eq⟩ := ih hf
      exact ⟨c :: before, d, after, by rw [split]; rfl, tag, List.forall_mem_cons.2 ⟨fun h => new (other h), first⟩, eq⟩
    unfold joinByTag at h
    split at h
    case h_1 untagged => exact ⟨(ih h).1, later (by simp [untagged]) h⟩
    case h_2 t tagged =>
      split at h
      case isTrue known =>
        refine ⟨(ih h).1, later (fun tag => ?_) h⟩
        obtain rfl : t = f.tag := Option.some.inj (tagged.symm.trans tag)
        simpa using known
      case isFalse new =>
        rcases List.mem_cons.1 h with rfl | h
        · exact ⟨by simpa [joinComponents] using new, [], c, cs, rfl, tagged, by simp, rfl⟩
        · refine ⟨fun mem => (ih h).1 (List.mem_cons_of_mem _ mem), later (fun tag => ?_) h⟩
          obtain rfl : t = f.tag := Option.some.inj (tagged.symm.trans tag)
          exact List.mem_cons_self

theorem mem_joinComponents {coils : Eight Coil} {previous : List Fragment} {tag : Tag} {c : Component} {cs : List Component}
    {i : CoilIx} : i ∈ (joinComponents coils previous tag c cs).coils ↔ ∃ x ∈ c :: cs, i ∈ x.coils := by
  simp [joinComponents, mem_allCoils]

theorem joinByTag_joinedFrom {coils : Eight Coil} {previous : List Fragment} {comps : List Component} {f : Fragment}
    (h : f ∈ joinByTag coils previous [] comps) : f.JoinedFrom comps := by
  obtain ⟨-, before, c, after, rfl, tag, first, eq⟩ := joinByTag_split h
  have parts (x : Component) :
      x ∈ c :: (after.filter fun x => decide (x.tag = some f.tag)) ↔ x ∈ before ++ c :: after ∧ x.tag = some f.tag := by
    simp only [List.mem_cons, List.mem_filter, List.mem_append, decide_eq_true_eq]
    constructor
    · rintro (rfl | ⟨hx, ht⟩)
      · exact ⟨.inr (.inl rfl), tag⟩
      · exact ⟨.inr (.inr hx), ht⟩
    · rintro ⟨hx | rfl | hx, ht⟩
      · exact absurd ht (first x hx)
      · exact .inl rfl
      · exact .inr ⟨hx, ht⟩
  refine ⟨fun i => ?_, ?_, ?_⟩
  · rw [eq, mem_joinComponents, ← eq]
    simp only [parts, and_assoc]
  · have : f.contact = true ↔ ∃ x ∈ c :: (after.filter fun x => decide (x.tag = some f.tag)), x.contact = true := by
      rw [eq]
      simp [joinComponents, and_assoc]
    rw [this]
    simp only [parts, and_assoc]
  · obtain ⟨b, a, split, low, high⟩ := foldl_leadingPart_split c (after.filter fun x => decide (x.tag = some f.tag))
    have origin : f.origin = ((after.filter fun x => decide (x.tag = some f.tag)).foldl leadingPart c).origin := by rw [eq]; rfl
    have program : f.program = ((after.filter fun x => decide (x.tag = some f.tag)).foldl leadingPart c).program := by rw [eq]; rfl
    generalize (after.filter fun x => decide (x.tag = some f.tag)).foldl leadingPart c = lead at *
    have whole : (c :: after).filter (fun x => decide (x.tag = some f.tag)) = b ++ lead :: a := by
      rw [List.filter_cons_of_pos (by simpa using tag), split]
    obtain ⟨B, R, hB, rfl, hR⟩ := List.filter_eq_append_iff.1 whole
    obtain ⟨C, A, rfl, none, held, rfl⟩ := List.filter_eq_cons_iff.1 hR
    refine ⟨before ++ B ++ C, lead, A, by rw [hB]; simp, by simpa using held, origin, program, fun x hx ht => ?_, fun x hx ht => ?_⟩
    · rw [idxOf_originOrder, idxOf_originOrder]
      rcases List.mem_append.1 hx with hx | hx
      · rcases List.mem_append.1 hx with hx | hx
        · exact absurd ht (first x hx)
        · exact low x (List.mem_filter.2 ⟨hx, by simpa using ht⟩)
      · exact absurd ht (by simpa using none x hx)
    · rw [idxOf_originOrder, idxOf_originOrder]
      exact high x (List.mem_filter.2 ⟨hx, by simpa using ht⟩)

theorem joinByTag_holds {coils : Eight Coil} {previous : List Fragment} {comps : List Component} {c : Component} {tag : Tag}
    (hc : c ∈ comps) (ht : c.tag = some tag) : ∃ f ∈ joinByTag coils previous [] comps, f.tag = tag :=
  List.mem_map.1 (((joinByTag_tags coils previous [] comps).2 tag).2 ⟨by simp, c, hc, ht⟩)

end Sys2Proof.Machine

/-! PROOFS. The components of a tracking update (R26): the covered coils fall into connected sets, each a component of its own. -/

namespace Sys2Proof.Machine

open Sys2Proof

variable {covered : CoilIx → Bool}

theorem adjacentCoils_symm {i j : CoilIx} (h : adjacentCoils i j = true) : adjacentCoils j i = true := by
  revert i j
  decide

/-! ### Growing ends in seven rounds -/

theorem growRounds_succ (n : Nat) (set : List CoilIx) :
    growRounds covered (n + 1) set = growSet covered (growRounds covered n set) := by
  induction n generalizing set with
  | zero => rfl
  | succ n ih => exact ih (growSet covered set)

theorem covered_of_mem_growRounds {i j : CoilIx} (hi : covered i = true) (n : Nat) (h : j ∈ growRounds covered n [i]) :
    covered j = true := by
  cases n with
  | zero => simpa [growRounds] using (List.mem_singleton.1 h) ▸ hi
  | succ n =>
    rw [growRounds_succ] at h
    exact (mem_growSet.1 h).1

/-- Growing keeps every coil it has reached. -/
theorem growRounds_subset {i j : CoilIx} (hi : covered i = true) {n : Nat} (h : j ∈ growRounds covered n [i]) :
    j ∈ growRounds covered (n + 1) [i] := by
  rw [growRounds_succ]
  exact mem_growSet.2 ⟨covered_of_mem_growRounds hi n h, .inl h⟩

/-- A round reaches a coil more, or no later one does. -/
theorem growRounds_grows {i : CoilIx} (hi : covered i = true) (n : Nat) :
    (∀ j, j ∈ growRounds covered (n + 1) [i] → j ∈ growRounds covered n [i]) ∨ n + 1 ≤ (growRounds covered n [i]).toFinset.card := by
  induction n with
  | zero => exact .inr (by simp [growRounds])
  | succ n ih =>
    by_cases still : ∀ j, j ∈ growRounds covered (n + 1) [i] → j ∈ growRounds covered n [i]
    · refine .inl fun j hj => ?_
      rw [growRounds_succ, mem_growSet] at hj ⊢
      obtain ⟨hc, hj | ⟨k, hk, adjacent⟩⟩ := hj
      · exact ⟨hc, .inl (still j hj)⟩
      · exact ⟨hc, .inr ⟨k, still k hk, adjacent⟩⟩
    · have more := ih.resolve_left still
      refine .inr (Nat.succ_le_of_lt (lt_of_le_of_lt more (Finset.card_lt_card ?_)))
      rw [Finset.ssubset_iff_subset_ne]
      refine ⟨fun j hj => ?_, fun same => still fun j hj => ?_⟩
      · rw [List.mem_toFinset] at hj ⊢
        exact growRounds_subset hi hj
      · rw [← List.mem_toFinset, same, List.mem_toFinset]
        exact hj

/-- R26: a component holds every covered neighbour of its coils. -/
theorem componentOf_closed {i j k : CoilIx} (hi : covered i = true) (hk : k ∈ componentOf covered i)
    (adjacent : adjacentCoils k j = true) (hj : covered j = true) : j ∈ componentOf covered i := by
  have next : j ∈ growRounds covered 8 [i] := by
    rw [growRounds_succ]
    exact mem_growSet.2 ⟨hj, .inr ⟨k, hk, adjacent⟩⟩
  rcases growRounds_grows hi 7 with still | full
  · exact still j next
  · have all : (growRounds covered 7 [i]).toFinset = Finset.univ := by
      rw [← Finset.card_eq_iff_eq_univ, Fintype.card_fin]
      exact le_antisymm ((Finset.card_le_univ _).trans (by simp)) full
    have : j ∈ (growRounds covered 7 [i]).toFinset := all ▸ Finset.mem_univ j
    exact List.mem_toFinset.1 this

theorem covered_of_mem_componentOf {i j : CoilIx} (hi : covered i = true) (h : j ∈ componentOf covered i) : covered j = true :=
  covered_of_mem_growRounds hi 7 h

/-! ### Components are equal or apart -/

/-- The component of a coil of a component lies within it. -/
theorem componentOf_subset {i j : CoilIx} (hi : covered i = true) (hj : j ∈ componentOf covered i) :
    ∀ k ∈ componentOf covered j, k ∈ componentOf covered i := by
  have within (n : Nat) : ∀ k ∈ growRounds covered n [j], k ∈ componentOf covered i := by
    induction n with
    | zero => exact fun k hk => List.mem_singleton.1 hk ▸ hj
    | succ n ih =>
      intro k hk
      rw [growRounds_succ, mem_growSet] at hk
      obtain ⟨hc, hk | ⟨m, hm, adjacent⟩⟩ := hk
      · exact ih k hk
      · exact componentOf_closed hi (ih m hm) adjacent hc
  exact within 7

theorem mem_componentOf_symm {i j : CoilIx} (hi : covered i = true) (hj : j ∈ componentOf covered i) :
    i ∈ componentOf covered j := by
  have back (n : Nat) : ∀ k ∈ growRounds covered n [i], i ∈ componentOf covered k := by
    induction n with
    | zero =>
      intro k hk
      obtain rfl := List.mem_singleton.1 hk
      exact mem_componentOf_self hi
    | succ n ih =>
      intro k hk
      rw [growRounds_succ, mem_growSet] at hk
      obtain ⟨hc, hk | ⟨m, hm, adjacent⟩⟩ := hk
      · exact ih k hk
      · have hm' := mem_componentOf_adjacent (covered_of_mem_growRounds hi n hm) (adjacentCoils_symm adjacent)
        exact componentOf_subset hc hm' i (ih m hm)
  exact back 7 j hj

theorem componentOf_eq_filter (covered : CoilIx → Bool) (i : CoilIx) :
    componentOf covered i = allCoils.filter fun k => decide (k ∈ componentOf covered i) := by
  have form : componentOf covered i = growSet covered (growRounds covered 6 [i]) := growRounds_succ 6 [i]
  rw [form]
  refine List.filter_congr fun k _ => ?_
  rw [Bool.eq_iff_iff]
  simp [mem_growSet]

/-- R26: two coils of one component have the same component. -/
theorem componentOf_eq {i j : CoilIx} (hi : covered i = true) (hj : j ∈ componentOf covered i) :
    componentOf covered j = componentOf covered i := by
  rw [componentOf_eq_filter covered j, componentOf_eq_filter covered i]
  refine List.filter_congr fun k _ => ?_
  rw [decide_eq_decide]
  have cj := covered_of_mem_componentOf hi hj
  exact ⟨componentOf_subset hi hj k, componentOf_subset cj (mem_componentOf_symm hi hj) k⟩

/-- R26: the components are those of the covered coils. -/
theorem mem_coilComponents {set : List CoilIx} :
    set ∈ coilComponents covered ↔ ∃ i, covered i = true ∧ set = componentOf covered i := by
  simp only [coilComponents, List.mem_map, List.mem_filter, mem_allCoils, true_and, Bool.and_eq_true, decide_eq_true_eq]
  constructor
  · rintro ⟨i, ⟨hi, -⟩, rfl⟩
    exact ⟨i, hi, rfl⟩
  · rintro ⟨i, hi, rfl⟩
    obtain ⟨k, head⟩ := List.isSome_head?.2 (List.ne_nil_of_mem (mem_componentOf_self hi)) |> Option.isSome_iff_exists.1
    have hk := List.mem_of_mem_head? head
    have eq := componentOf_eq hi hk
    exact ⟨k, ⟨covered_of_mem_componentOf hi hk, by rw [eq, head]⟩, eq⟩

theorem coilComponents_nodup (covered : CoilIx → Bool) : (coilComponents covered).Nodup := by
  refine List.Nodup.map_on (fun i hi j hj eq => ?_) ((by decide : allCoils.Nodup).filter _)
  simp only [List.mem_filter, Bool.and_eq_true, decide_eq_true_eq] at hi hj
  exact Option.some.inj (hi.2.2.symm.trans (eq ▸ hj.2.2))

theorem coilComponents_disjoint {a b : List CoilIx} (ha : a ∈ coilComponents covered) (hb : b ∈ coilComponents covered)
    {i : CoilIx} (hia : i ∈ a) (hib : i ∈ b) : a = b := by
  obtain ⟨j, hj, rfl⟩ := mem_coilComponents.1 ha
  obtain ⟨k, hk, rfl⟩ := mem_coilComponents.1 hb
  rw [← componentOf_eq hj hia, ← componentOf_eq hk hib]

theorem coilComponents_closed {a : List CoilIx} (ha : a ∈ coilComponents covered) {i j : CoilIx} (hi : i ∈ a)
    (adjacent : adjacentCoils i j = true) (hj : covered j = true) : j ∈ a := by
  obtain ⟨k, hk, rfl⟩ := mem_coilComponents.1 ha
  exact componentOf_closed hk hi adjacent hj

theorem covered_of_mem_component {a : List CoilIx} (ha : a ∈ coilComponents covered) {i : CoilIx} (hi : i ∈ a) :
    covered i = true := by
  obtain ⟨k, hk, rfl⟩ := mem_coilComponents.1 ha
  exact covered_of_mem_componentOf hk hi

theorem coilComponents_ne_nil {a : List CoilIx} (ha : a ∈ coilComponents covered) : a ≠ [] := by
  obtain ⟨k, hk, rfl⟩ := mem_coilComponents.1 ha
  exact List.ne_nil_of_mem (mem_componentOf_self hk)

end Sys2Proof.Machine

/-! PROOFS. Where the tags of a tracking update come from (R27 to R31): its own history, the neighbour edge, the lifted list or a new
serial, and what steps 4 and 5 request. -/

namespace Sys2Proof.Machine

open Sys2Proof

/-! ### Provenance -/

/-- No fragment of the previous table and no lifted entry held the tag, where both tables keep within their sizes. -/
def State.FreshTag (s : State) (tag : Tag) : Prop :=
  s.tracker.pans.length ≤ 4 → s.tracker.lifted.length ≤ 4 →
    (∀ g ∈ s.tracker.pans, g.tag ≠ tag) ∧ ∀ l ∈ s.tracker.lifted, l.tag ≠ tag

/-- What the origin of a coil set that holds `tag` says of the tables the update read (R27 to R31). -/
def State.From (s : State) (tag : Tag) (set : List CoilIx) (program : Option Program) (panContact : Bool) : Origin → Prop
  | .tracked =>
    ∃ g ∈ s.tracker.pans, g.tag = tag ∧ (∃ i ∈ set, i ∈ g.coils) ∧ program = g.program ∧ panContact = g.panContact
  | .resumed =>
    panContact = false ∧ ∃ l ∈ s.tracker.lifted, l.tag = tag ∧ (∃ i ∈ set, i ∈ l.footprint) ∧ program = l.program
  | .carried => program = none ∧ panContact = false ∧ ∃ e ∈ s.link.peers, e.report.tag = tag ∧ Faces s.sup.position set e
  | .new =>
    program = none ∧ panContact = false ∧ tag.creator = s.sup.position ∧ (∀ e ∈ s.link.peers, ¬ Faces s.sup.position set e) ∧
      s.FreshTag tag

/-- A component holds a tag, and its origin says where from. -/
def State.Traced (s : State) (c : Component) : Prop :=
  ∃ tag, c.tag = some tag ∧ s.From tag c.coils c.program c.panContact c.origin

/-- A component that steps 2 and 3 have left untagged: no report faces it. -/
def State.Untagged (s : State) (c : Component) : Prop :=
  c.tag = none ∧ c.panContact = false ∧ ∀ e ∈ s.link.peers, ¬ Faces s.sup.position c.coils e

/-- A component before step 5: tagged by an earlier step, or untagged. -/
def State.Waits (s : State) (c : Component) : Prop := s.Traced c ∧ c.origin ≠ .new ∨ s.Untagged c

variable {s : State}

/-! ### Steps 1 to 3 -/

theorem ownHistory_cases (previous : List Fragment) (sets : List (List CoilIx)) (c : Component) :
    ownHistory previous sets c = c ∨
      ∃ f, candidateOf previous c.coils = some f ∧
        ownHistory previous sets c =
          { c with
            tag := some f.tag, origin := .tracked, program := f.program, home := f.home, contact := f.contact,
            panContact := f.panContact } := by
  unfold ownHistory
  split
  · exact .inl rfl
  · rename_i f candidate
    split
    · exact .inl rfl
    · exact .inr ⟨f, candidate, rfl⟩

@[simp] theorem ownHistory_coils (previous : List Fragment) (sets : List (List CoilIx)) (c : Component) :
    (ownHistory previous sets c).coils = c.coils := by
  rcases ownHistory_cases previous sets c with h | ⟨f, -, h⟩ <;> rw [h]

theorem neighbourEdge_tagged {position : Position} {peers : List PeerEntry} {c : Component} (h : c.tag ≠ none) :
    neighbourEdge position peers c = c := (neighbourEdge_edgeTagged position peers c).1 (.inl h)

@[simp] theorem neighbourEdge_coils (position : Position) (peers : List PeerEntry) (c : Component) :
    (neighbourEdge position peers c).coils = c.coils := by
  unfold neighbourEdge
  split
  · rfl
  · split <;> rfl

theorem State.historyComponents_coils (s : State) :
    (s.historyComponents.map fun c => c.coils) = coilComponents s.coveredCoil := by
  simp [State.historyComponents, untaggedComponent, Function.comp_def]

theorem State.historyComponents_waits (s : State) : ∀ c ∈ s.historyComponents, s.Waits c := by
  intro c hc
  simp only [State.historyComponents, List.mem_map] at hc
  obtain ⟨-, ⟨set, -, rfl⟩, rfl⟩ := hc
  rcases ownHistory_cases s.tracker.pans (coilComponents s.coveredCoil) (untaggedComponent s.coils set) with same | ⟨f, candidate, eq⟩
  · rw [same]
    obtain ⟨stays, offered⟩ := neighbourEdge_edgeTagged s.sup.position s.link.peers (untaggedComponent s.coils set)
    by_cases facing : ∃ e ∈ s.link.peers, Faces s.sup.position set e
    · obtain ⟨e, he, faces, eq, -⟩ := offered rfl facing
      rw [eq]
      exact .inl ⟨⟨e.report.tag, rfl, rfl, rfl, e, he, rfl, faces⟩, by simp⟩
    · have none : ∀ e ∈ s.link.peers, ¬ Faces s.sup.position set e := fun e he faces => facing ⟨e, he, faces⟩
      rw [stays (.inr none)]
      exact .inr ⟨rfl, rfl, none⟩
  · rw [eq, neighbourEdge_tagged (by simp)]
    obtain ⟨hf, shares⟩ := candidateOf_mem candidate
    obtain ⟨i, hi, his⟩ := sharedCoils_pos.1 shares
    exact .inl ⟨⟨f.tag, rfl, f, hf, rfl, ⟨i, his, hi⟩, rfl, rfl⟩, by simp⟩

/-! ### Step 4 -/

/-- What step 4 keeps as it goes from component to component (R30). -/
structure State.Resuming (s : State) (t : Tagging) : Prop where
  comps : ∀ c ∈ t.comps, s.Waits c
  lifted : ∀ l ∈ t.lifted, l ∈ s.tracker.lifted
  /-- An entry that has left the list has given its tag to a component and requested RETURNED. -/
  left :
    ∀ l ∈ s.tracker.lifted, l ∈ t.lifted ∨ (∃ c ∈ t.comps, c.tag = some l.tag) ∧
      ∃ e ∈ s.tracker.lifted, e.tag = l.tag ∧ (e.confirmed = true → e.wasHome = true → (e.tag, .returned) ∈ t.requests)
  requests :
    ∀ r ∈ t.requests, r.2 = .returned ∧ ∃ l ∈ s.tracker.lifted, l.tag = r.1 ∧ l.confirmed = true ∧ l.wasHome = true
  serial : t.serial = s.tracker.serial

theorem State.Resuming.untouched {t : Tagging} (h : s.Resuming t) {c : Component} (hc : s.Waits c) :
    s.Resuming { t with comps := t.comps ++ [c] } where
  comps := by simpa [or_imp, forall_and] using ⟨h.comps, hc⟩
  lifted := h.lifted
  left := fun l hl => (h.left l hl).imp id fun ⟨⟨d, hd, tag⟩, e⟩ => ⟨⟨d, List.mem_append_left _ hd, tag⟩, e⟩
  requests := h.requests
  serial := h.serial

theorem State.Resuming.next {t : Tagging} (h : s.Resuming t) {c : Component} (hc : s.Waits c) : s.Resuming (resumeOne t c) := by
  obtain ⟨stays, resumes⟩ := resumeOne_resumedTo t c
  by_cases free : c.tag ≠ none ∨ ∀ e ∈ t.lifted, (e.footprint.filter fun i => decide (i ∈ c.coils)).length = 0
  · rw [stays free]
    exact h.untouched hc
  · obtain ⟨tag, shared⟩ := not_or.1 free
    have tag : c.tag = none := not_not.1 tag
    obtain ⟨e, he, shares, -, eq⟩ := resumes tag (by simpa [Nat.pos_iff_ne_zero] using shared)
    obtain ⟨i, hi, his⟩ := sharedCoils_pos.1 (by rw [sharedCoils_eq]; exact shares)
    have idle : c.panContact = false := by
      rcases hc with ⟨⟨u, hu, -⟩, -⟩ | ⟨-, hp, -⟩
      · simp [tag] at hu
      · exact hp
    rw [eq]
    refine ⟨?_, fun l hl => h.lifted l (List.mem_of_mem_filter hl), fun l hl => ?_, fun r hr => ?_, h.serial⟩
    · simp only [List.mem_append, List.mem_singleton]
      rintro d (hd | rfl)
      · exact h.comps d hd
      · exact .inl ⟨⟨e.tag, rfl, idle, e, h.lifted e he, rfl, ⟨i, his, hi⟩, rfl⟩, by simp⟩
    · rcases h.left l hl with stays | ⟨⟨d, hd, held⟩, x, hx, same, due⟩
      · by_cases same : l.tag = e.tag
        · refine .inr ⟨⟨_, List.mem_append_right _ List.mem_cons_self, by rw [same]⟩, e, h.lifted e he, same.symm, fun hc hw => ?_⟩
          simp [hc, hw]
        · exact .inl (List.mem_filter.2 ⟨stays, by simpa using same⟩)
      · exact .inr ⟨⟨d, List.mem_append_left _ hd, held⟩, x, hx, same, fun hc hw => List.mem_append_left _ (due hc hw)⟩
    · rcases List.mem_append.1 hr with hr | hr
      · exact h.requests r hr
      · split at hr
        · rename_i due
          obtain rfl := List.mem_singleton.1 hr
          exact ⟨rfl, e, h.lifted e he, rfl, due⟩
        · simp at hr

theorem State.Resuming.foldl {cs : List Component} (hc : ∀ c ∈ cs, s.Waits c) {t : Tagging} (h : s.Resuming t) :
    s.Resuming (cs.foldl resumeOne t) := by
  induction cs generalizing t with
  | nil => exact h
  | cons c cs ih =>
    obtain ⟨hc, hcs⟩ := List.forall_mem_cons.1 hc
    exact ih hcs (h.next hc)

theorem resumeOne_coils (t : Tagging) (c : Component) :
    ((resumeOne t c).comps.map fun c => c.coils) = (t.comps.map fun c => c.coils) ++ [c.coils] := by
  unfold resumeOne
  split
  · simp
  · split <;> simp

theorem foldl_resumeOne_coils (cs : List Component) (t : Tagging) :
    ((cs.foldl resumeOne t).comps.map fun c => c.coils) = (t.comps.map fun c => c.coils) ++ cs.map fun c => c.coils := by
  induction cs generalizing t with
  | nil => simp
  | cons c cs ih => simp [ih, resumeOne_coils]

/-- A component that holds a tag goes through step 4 as it is. -/
theorem mem_foldl_resumeOne_of_tagged {cs : List Component} {c : Component} (tag : c.tag ≠ none) (t : Tagging)
    (h : c ∈ t.comps ∨ c ∈ cs) : c ∈ (cs.foldl resumeOne t).comps := by
  induction cs generalizing t with
  | nil => simpa using h
  | cons d ds ih =>
    have kept (hc : c ∈ t.comps) : c ∈ (resumeOne t d).comps := by
      unfold resumeOne
      split
      · exact List.mem_append_left _ hc
      · split <;> exact List.mem_append_left _ hc
    refine ih (resumeOne t d) ?_
    rcases h with h | h
    · exact .inl (kept h)
    · rcases List.mem_cons.1 h with rfl | h
      · rw [(resumeOne_resumedTo t c).1 (.inl tag)]
        exact .inl (by simp)
      · exact .inr h

/-- What step 4 leaves. -/
def State.resumedTagging (s : State) : Tagging :=
  s.historyComponents.foldl resumeOne { comps := [], lifted := s.tracker.lifted, serial := s.tracker.serial, requests := [] }

theorem State.resumedTagging_resuming (s : State) : s.Resuming s.resumedTagging :=
  State.Resuming.foldl s.historyComponents_waits
    { comps := by simp, lifted := fun _ => id, left := fun _ h => .inl h, requests := by simp, serial := rfl }

/-! ### Step 5 -/

/-- What step 5 keeps as it goes from component to component (R22, R31): `created` are the new tags so far, `cs` the components to
come, `r4` the requests of step 4. -/
structure State.Creating (s : State) (r4 : List Request) (created : List Tag) (cs : List Component) (t : Tagging) : Prop where
  comps : ∀ c ∈ t.comps, s.Traced c ∧ (c.origin = .new → ∃ tag ∈ created, c.tag = some tag)
  waits : ∀ c ∈ cs, s.Waits c
  few : t.comps.length + cs.length ≤ 4
  lifted : ∀ l ∈ t.lifted, l ∈ s.tracker.lifted
  sizes : t.lifted.length ≤ s.tracker.lifted.length
  left : ∀ l ∈ s.tracker.lifted, l ∈ t.lifted ∨ ∃ c ∈ t.comps ++ cs, c.tag = some l.tag
  requests : t.requests = r4 ++ created.map fun tag => (tag, .appeared)
  fresh : ∀ tag ∈ created, tag.creator = s.sup.position ∧ s.FreshTag tag
  serial :
    t.serial =
      match created.getLast? with
      | none => s.tracker.serial
      | some tag => serialAfter tag.serial

/-- R22: the tag step 5 gives to the next untagged component. -/
def Tagging.newTag (t : Tagging) (position : Position) (previous : List Fragment) (rest : List Component) : Tag :=
  { creator := position
    serial :=
      freeSerial (fun n => tagInUse previous (t.comps ++ rest) t.lifted { creator := position, serial := n }) 12 t.serial }

theorem newTagOne_untagged {position : Position} {previous : List Fragment} {rest : List Component} {t : Tagging} {c : Component}
    (tag : c.tag = none) :
    newTagOne position previous rest t c =
      { t with
        comps :=
          t.comps ++
            [{ c with
                tag := some (t.newTag position previous rest), origin := .new, program := none, home := false, contact := false,
                panContact := false }]
        serial := serialAfter (t.newTag position previous rest).serial
        requests := t.requests ++ [(t.newTag position previous rest, .appeared)] } := by
  unfold newTagOne
  rw [tag]
  rfl

theorem newTagOne_tagged {position : Position} {previous : List Fragment} {rest : List Component} {t : Tagging} {c : Component}
    (tag : c.tag ≠ none) : newTagOne position previous rest t c = { t with comps := t.comps ++ [c] } :=
  (newTagOne_newTagTo position previous rest t c).1 tag

/-- R22: where at most eleven tags are held, the new one is not held. -/
theorem Tagging.newTag_free {t : Tagging} {position : Position} {previous : List Fragment} {rest : List Component}
    (few : (heldTags previous (t.comps ++ rest) t.lifted).length ≤ 11) :
    t.newTag position previous rest ∉ heldTags previous (t.comps ++ rest) t.lifted := by
  rcases freeSerial_cases
      (fun s => tagInUse previous (t.comps ++ rest) t.lifted { creator := position, serial := s }) 12 t.serial with
    ⟨n, -, free, -, eq⟩ | all
  · unfold Tagging.newTag
    rw [eq, ← tagInUse_iff]
    simpa using free
  · exact absurd (fun k hk => tagInUse_iff.1 (all k hk)) (exists_free few position t.serial)

theorem State.Creating.next {r4 : List Request} {created : List Tag} {c : Component} {cs : List Component} {t : Tagging}
    (h : s.Creating r4 created (c :: cs) t) :
    ∃ created', s.Creating r4 created' cs (newTagOne s.sup.position s.tracker.pans cs t c) := by
  obtain ⟨hc, hcs⟩ := List.forall_mem_cons.1 h.waits
  have few : t.comps.length + 1 + cs.length ≤ 4 := by simpa [Nat.add_assoc, Nat.add_comm 1] using h.few
  rcases hc with ⟨traced, old⟩ | ⟨untagged, idle, apart⟩
  · obtain ⟨tag, tagged, -⟩ := id traced
    refine ⟨created, ?_⟩
    rw [newTagOne_tagged (by simp [tagged])]
    refine ⟨?_, hcs, by simpa using few, h.lifted, h.sizes, fun l hl => by simpa using h.left l hl, h.requests, h.fresh, h.serial⟩
    simp only [List.mem_append, List.mem_singleton]
    rintro d (hd | rfl)
    · exact h.comps d hd
    · exact ⟨traced, fun new => absurd new old⟩
  · have fresh : s.FreshTag (t.newTag s.sup.position s.tracker.pans cs) := by
      intro pans lifted
      have count : (heldTags s.tracker.pans (t.comps ++ cs) t.lifted).length ≤ 11 := by
        have tags := List.length_filterMap_le (fun d : Component => d.tag) (t.comps ++ cs)
        have sizes := h.sizes
        simp only [heldTags, List.length_append, List.length_map] at tags ⊢
        omega
      have free := Tagging.newTag_free (position := s.sup.position) count
      rw [mem_heldTags, not_or, not_or] at free
      obtain ⟨freeOld, freeNew, freeLifted⟩ := free
      refine ⟨fun g hg same => freeOld ⟨g, hg, same⟩, fun l hl same => ?_⟩
      rcases h.left l hl with hl | ⟨d, hd, held⟩
      · exact freeLifted ⟨l, hl, same⟩
      · simp only [List.mem_append, List.mem_cons] at hd
        rcases hd with hd | rfl | hd
        · exact freeNew ⟨d, List.mem_append_left _ hd, same ▸ held⟩
        · simp [untagged] at held
        · exact freeNew ⟨d, List.mem_append_right _ hd, same ▸ held⟩
    refine ⟨created ++ [t.newTag s.sup.position s.tracker.pans cs], ?_⟩
    rw [newTagOne_untagged untagged]
    refine ⟨?_, hcs, by simpa using few, h.lifted, h.sizes, fun l hl => ?_, by simp [h.requests], ?_, by simp⟩
    · simp only [List.mem_append, List.mem_singleton]
      rintro d (hd | rfl)
      · exact ⟨(h.comps d hd).1, fun new => ((h.comps d hd).2 new).imp fun u ⟨hu, held⟩ => ⟨.inl hu, held⟩⟩
      · exact ⟨⟨_, rfl, rfl, rfl, rfl, apart, fresh⟩, fun _ => ⟨_, .inr rfl, rfl⟩⟩
    · rcases h.left l hl with hl | ⟨d, hd, held⟩
      · exact .inl hl
      · simp only [List.mem_append, List.mem_cons] at hd
        rcases hd with hd | rfl | hd
        · exact .inr ⟨d, by simp [hd], held⟩
        · simp [untagged] at held
        · exact .inr ⟨d, by simp [hd], held⟩
    · simp only [List.mem_append, List.mem_singleton]
      rintro tag (ht | rfl)
      · exact h.fresh tag ht
      · exact ⟨rfl, fresh⟩

theorem State.Creating.all {r4 : List Request} {created : List Tag} {cs : List Component} {t : Tagging}
    (h : s.Creating r4 created cs t) : ∃ created', s.Creating r4 created' [] (newTags s.sup.position s.tracker.pans cs t) := by
  induction cs generalizing t created with
  | nil => exact ⟨created, h⟩
  | cons c cs ih =>
    obtain ⟨_, h'⟩ := h.next
    exact ih h'

theorem newTags_coils (position : Position) (previous : List Fragment) (cs : List Component) (t : Tagging) :
    ((newTags position previous cs t).comps.map fun c => c.coils) = (t.comps.map fun c => c.coils) ++ cs.map fun c => c.coils := by
  induction cs generalizing t with
  | nil => simp [newTags]
  | cons c cs ih =>
    unfold newTags
    rw [ih]
    unfold newTagOne
    split <;> simp

/-- A component that holds a tag goes through step 5 as it is. -/
theorem mem_newTags_of_tagged (position : Position) (previous : List Fragment) {cs : List Component} {c : Component}
    (tag : c.tag ≠ none) (t : Tagging) (h : c ∈ t.comps ∨ c ∈ cs) : c ∈ (newTags position previous cs t).comps := by
  induction cs generalizing t with
  | nil => simpa [newTags] using h
  | cons d ds ih =>
    have kept (hc : c ∈ t.comps) : c ∈ (newTagOne position previous ds t d).comps := by
      unfold newTagOne
      split <;> exact List.mem_append_left _ hc
    refine ih (newTagOne position previous ds t d) ?_
    rcases h with h | h
    · exact .inl (kept h)
    · rcases List.mem_cons.1 h with rfl | h
      · rw [newTagOne_tagged tag]
        exact .inl (by simp)
      · exact .inr h

theorem State.tagComponents_eq (s : State) :
    s.tagComponents = newTags s.sup.position s.tracker.pans s.resumedTagging.comps { s.resumedTagging with comps := [] } := rfl

theorem State.tagComponents_coils (s : State) : (s.tagComponents.comps.map fun c => c.coils) = coilComponents s.coveredCoil := by
  rw [State.tagComponents_eq, newTags_coils]
  simp [State.resumedTagging, foldl_resumeOne_coils, State.historyComponents_coils]

theorem State.tagComponents_creating (s : State) : ∃ created, s.Creating s.resumedTagging.requests created [] s.tagComponents := by
  have resumed := s.resumedTagging_resuming
  refine State.Creating.all (created := [])
    { comps := by simp, waits := resumed.comps, few := ?_, lifted := resumed.lifted, sizes := ?_, left := fun l hl => ?_,
      requests := (List.append_nil _).symm, fresh := by simp, serial := resumed.serial }
  · have := coilComponents_length s.coveredCoil
    rw [← s.historyComponents_coils, List.length_map] at this
    simpa [State.resumedTagging, foldl_resumeOne_length] using this
  · exact (foldl_resumeOne_lifted _ _).length_le
  · exact (resumed.left l hl).imp id And.left

end Sys2Proof.Machine

/-! PROOFS. The fragments of a tracking update before its last steps (R32 to R34): which coils they hold, and where their tags, origins
and programs come from. -/

namespace Sys2Proof.Machine

open Sys2Proof

variable {s : State}

/-! ### Larger sets -/

theorem Faces.mono {position : Position} {a b : List CoilIx} {e : PeerEntry} (sub : ∀ i ∈ a, i ∈ b) (h : Faces position a e) :
    Faces position b e := by
  obtain ⟨area, r, left | right⟩ := h
  · exact ⟨area, r, .inl ⟨left.1, sub _ left.2.1, left.2.2⟩⟩
  · exact ⟨area, r, .inr ⟨right.1, sub _ right.2.1, right.2.2⟩⟩

theorem Touches.mono {position : Position} {coils : Eight Coil} {tag : Option Tag} {a b : List CoilIx} {e : PeerEntry}
    (sub : ∀ i ∈ a, i ∈ b) (h : Touches position coils tag a e) : Touches position coils tag b e := by
  refine ⟨h.1, h.2.mono fun i hi => ?_⟩
  rw [List.mem_filter] at hi ⊢
  exact ⟨sub i hi.1, hi.2⟩

theorem Touches.faces {position : Position} {coils : Eight Coil} {tag : Option Tag} {set : List CoilIx} {e : PeerEntry}
    (h : Touches position coils tag set e) : Faces position set e := h.2.mono fun _ hi => List.mem_of_mem_filter hi

/-! ### Step 6 -/

/-- R32: a component keeps its tag, or one without a program takes that of a report it touches. -/
theorem seniority_cases (touched : List Report) (own : Tag) (c : Component) :
    (∃ b, seniority touched own c = { c with contact := b }) ∨
      c.program = none ∧ ∃ r ∈ touched, seniority touched own c = adoptTag r.tag { c with contact := false } := by
  by_cases hp : c.program = none
  · cases hw : touched.filter fun r => r.published.isSome with
    | cons r rs =>
      rw [seniority_of_offer hp hw]
      have mem := lowestTag_mem r.tag (rs.map (·.tag))
      rw [← List.map_cons (f := fun r : Report => r.tag), ← hw] at mem
      obtain ⟨x, hx, eq⟩ := List.mem_map.1 mem
      exact .inr ⟨hp, x, List.mem_of_mem_filter hx, by rw [eq]⟩
    | nil =>
      rw [seniority_of_silence hp hw]
      split_ifs with own'
      · exact .inl ⟨false, rfl⟩
      · obtain ⟨x, hx, eq⟩ := List.mem_map.1 ((List.mem_cons.1 (lowestTag_mem own (touched.map (·.tag)))).resolve_left own')
        exact .inr ⟨hp, x, hx, by rw [eq]⟩
  · exact .inl ⟨_, seniority_of_program hp⟩

theorem seniorityOf_cases (position : Position) (coils : Eight Coil) (peers : List PeerEntry) {c : Component} {own : Tag}
    (tag : c.tag = some own) :
    (∃ b, seniorityOf position coils peers c = { c with contact := b }) ∨
      c.program = none ∧ ∃ e ∈ peers, Faces position c.coils e ∧
        seniorityOf position coils peers c = adoptTag e.report.tag { c with contact := false } := by
  have eq : seniorityOf position coils peers c = seniority (touchedReports position coils peers c) own c := by
    simp [seniorityOf, tag]
  rw [eq]
  refine (seniority_cases _ own c).imp id fun ⟨bare, r, hr, adopts⟩ => ?_
  obtain ⟨e, ⟨he, touches⟩, rfl⟩ := mem_touchedReports.1 hr
  exact ⟨bare, e, he, touches.faces, adopts⟩

@[simp] theorem seniorityOf_coils (position : Position) (coils : Eight Coil) (peers : List PeerEntry) (c : Component) :
    (seniorityOf position coils peers c).coils = c.coils := by
  cases tag : c.tag with
  | none => simp [seniorityOf, tag]
  | some own => exact (seniorityOf_seniorTo position coils peers tag).rest.1

/-- The components after step 6. -/
def State.seniorComponents (s : State) : List Component :=
  s.tagComponents.comps.map (seniorityOf s.sup.position s.coils s.link.peers)

theorem State.seniorComponents_coils (s : State) : (s.seniorComponents.map fun c => c.coils) = coilComponents s.coveredCoil := by
  rw [← s.tagComponents_coils]
  simp [State.seniorComponents, Function.comp_def]

theorem State.tagComponents_traced (s : State) : ∀ c ∈ s.tagComponents.comps, s.Traced c := by
  obtain ⟨_, creating⟩ := s.tagComponents_creating
  exact fun c hc => (creating.comps c hc).1

/-- R32: after step 6 a component still holds a tag that its origin accounts for. -/
theorem State.seniorComponents_traced (s : State) : ∀ c ∈ s.seniorComponents, s.Traced c := by
  intro d hd
  obtain ⟨c, hc, rfl⟩ := List.mem_map.1 hd
  obtain ⟨own, tag, origin⟩ := s.tagComponents_traced c hc
  rcases seniorityOf_cases s.sup.position s.coils s.link.peers tag with ⟨b, eq⟩ | ⟨none, e, he, faces, eq⟩ <;> rw [eq]
  · exact ⟨own, tag, origin⟩
  · exact ⟨e.report.tag, rfl, none, rfl, e, he, rfl, faces⟩

/-- Step 6 leaves the tag of a component whose origin is not CARRIED after it. -/
theorem State.seniorComponents_own {c : Component} (h : c ∈ s.seniorComponents) (origin : c.origin ≠ .carried) :
    ∃ d ∈ s.tagComponents.comps, d.tag = c.tag ∧ d.origin = c.origin := by
  obtain ⟨d, hd, rfl⟩ := List.mem_map.1 h
  obtain ⟨own, tag, -⟩ := s.tagComponents_traced d hd
  rcases seniorityOf_cases s.sup.position s.coils s.link.peers tag with ⟨b, eq⟩ | ⟨-, e, -, -, eq⟩ <;> rw [eq] at origin ⊢
  · exact ⟨d, hd, rfl, rfl⟩
  · exact absurd rfl origin

/-- R33: a component with a program that touches a report with one is in contact. -/
theorem State.seniorComponents_contact {c : Component} (h : c ∈ s.seniorComponents) (contact : c.contact = true) :
    ∃ e ∈ s.link.peers, e.report.published ≠ none ∧ Touches s.sup.position s.coils c.tag c.coils e := by
  obtain ⟨d, hd, rfl⟩ := List.mem_map.1 h
  obtain ⟨own, tag, -⟩ := s.tagComponents_traced d hd
  have senior := seniorityOf_seniorTo s.sup.position s.coils s.link.peers tag
  obtain ⟨program, e, ⟨he, touches⟩, publishes⟩ := senior.contact.1 contact
  refine ⟨e, he, publishes, ?_⟩
  rw [(senior.keeps program).1, seniorityOf_coils, ← tag]
  exact touches

theorem State.coils_mem_components {c : Component} (h : c ∈ s.seniorComponents) : c.coils ∈ coilComponents s.coveredCoil :=
  s.seniorComponents_coils ▸ List.mem_map_of_mem h

/-- R26: two components that share a coil are one. -/
theorem State.seniorComponents_disjoint {c d : Component} (hc : c ∈ s.seniorComponents) (hd : d ∈ s.seniorComponents) {i : CoilIx}
    (hic : i ∈ c.coils) (hid : i ∈ d.coils) : c = d :=
  List.inj_on_of_nodup_map (s.seniorComponents_coils ▸ coilComponents_nodup _) hc hd
    (coilComponents_disjoint (State.coils_mem_components hc) (State.coils_mem_components hd) hic hid)

theorem State.component_of_covered {i : CoilIx} (h : s.coveredCoil i = true) : ∃ c ∈ s.seniorComponents, i ∈ c.coils := by
  have mem : componentOf s.coveredCoil i ∈ s.seniorComponents.map fun c => c.coils :=
    s.seniorComponents_coils ▸ mem_coilComponents.2 ⟨i, h, rfl⟩
  obtain ⟨c, hc, eq⟩ := List.mem_map.1 mem
  exact ⟨c, hc, eq ▸ mem_componentOf_self h⟩

/-! ### Step 7 -/

/-- R34: the fragment of a tag takes origin, program and pan contact of its leading part. -/
theorem joinByTag_lead {coils : Eight Coil} {previous : List Fragment} {comps : List Component} {f : Fragment}
    (h : f ∈ joinByTag coils previous [] comps) :
    ∃ c ∈ comps, c.tag = some f.tag ∧ f.origin = c.origin ∧ f.program = c.program ∧ f.panContact = c.panContact ∧
      ∀ x ∈ comps, x.tag = some f.tag → c.origin.rank ≤ x.origin.rank := by
  obtain ⟨-, before, c, after, rfl, tag, first, eq⟩ := joinByTag_split h
  obtain ⟨b, a, split, low, high⟩ := foldl_leadingPart_split c (after.filter fun x => decide (x.tag = some f.tag))
  have parts : f.origin = _ ∧ f.program = _ ∧ f.panContact = _ :=
    ⟨congrArg (·.origin) eq, congrArg (·.program) eq, congrArg (·.panContact) eq⟩
  simp only [joinComponents] at parts
  have mem : _ ∈ c :: after.filter fun x => decide (x.tag = some f.tag) := foldl_choice_mem leadingPart_choice c _
  generalize (after.filter fun x => decide (x.tag = some f.tag)).foldl leadingPart c = lead at *
  obtain ⟨hl, ht⟩ : lead ∈ c :: after ∧ lead.tag = some f.tag := by
    rcases List.mem_cons.1 mem with rfl | mem
    · exact ⟨List.mem_cons_self, tag⟩
    · exact ⟨List.mem_cons_of_mem _ (List.mem_of_mem_filter mem), by simpa using List.of_mem_filter mem⟩
  refine ⟨lead, List.mem_append_right _ hl, ht, parts.1, parts.2.1, parts.2.2, fun x hx hxt => ?_⟩
  have hx : x ∈ c :: after := (List.mem_append.1 hx).resolve_left fun hb => first x hb hxt
  have hx : x ∈ b ++ lead :: a := by
    rw [← split]
    exact List.mem_cons.2 ((List.mem_cons.1 hx).imp id fun hx => List.mem_filter.2 ⟨hx, by simpa using hxt⟩)
  simp only [List.mem_append, List.mem_cons] at hx
  rcases hx with hx | rfl | hx
  · exact (low x hx).le
  · exact le_rfl
  · exact high x hx

/-- R34, R40, R64: the figures of a fragment of its coils. -/
structure State.Figured (s : State) (f : Fragment) : Prop where
  rising : f.coils.Pairwise fun i j => i < j
  area : f.area = areaOf s.coils f.coils
  edge : ∀ i, f.edge.get i = if i ∈ f.coils then (s.coils.get i).coverage else 0
  share :
    f.share =
      match s.tracker.pans.find? fun g => decide (g.tag = f.tag) with
      | some g => g.share
      | none => 0

theorem State.joinedPans_figured (s : State) : ∀ f ∈ s.joinedPans, s.Figured f := by
  intro f hf
  obtain ⟨-, _, c, _, -, -, -, eq⟩ := joinByTag_split hf
  rw [eq]
  refine ⟨?_, rfl, fun i => ?_, rfl⟩
  · dsimp only [joinComponents]
    exact pairwise_allCoils.filter _
  · simp [joinComponents]

theorem State.joinedPans_mem {f : Fragment} (h : f ∈ s.joinedPans) (i : CoilIx) :
    i ∈ f.coils ↔ ∃ c ∈ s.seniorComponents, c.tag = some f.tag ∧ i ∈ c.coils := (joinByTag_joinedFrom h).coils i

theorem State.joinedPans_ext {f g : Fragment} (hf : f ∈ s.joinedPans) (hg : g ∈ s.joinedPans) (tag : f.tag = g.tag) : f = g :=
  List.inj_on_of_nodup_map s.joinedPans_tags hf hg tag

/-- Every component is part of a fragment of its tag. -/
theorem State.fragment_of_component {c : Component} (h : c ∈ s.seniorComponents) :
    ∃ f ∈ s.joinedPans, c.tag = some f.tag ∧ ∀ i ∈ c.coils, i ∈ f.coils := by
  obtain ⟨tag, held, -⟩ := s.seniorComponents_traced c h
  obtain ⟨f, hf, rfl⟩ := joinByTag_holds (coils := s.coils) (previous := s.tracker.pans) h held
  exact ⟨f, hf, held, fun i hi => (State.joinedPans_mem hf i).2 ⟨c, h, held, hi⟩⟩

theorem State.joinedPans_covered (s : State) (i : CoilIx) : s.coveredCoil i = true ↔ ∃ f ∈ s.joinedPans, i ∈ f.coils := by
  constructor
  · intro h
    obtain ⟨c, hc, hi⟩ := State.component_of_covered h
    obtain ⟨f, hf, -, sub⟩ := State.fragment_of_component hc
    exact ⟨f, hf, sub i hi⟩
  · rintro ⟨f, hf, hi⟩
    obtain ⟨c, hc, -, hi⟩ := (State.joinedPans_mem hf i).1 hi
    exact covered_of_mem_component (State.coils_mem_components hc) hi

theorem State.joinedPans_disjoint {f g : Fragment} (hf : f ∈ s.joinedPans) (hg : g ∈ s.joinedPans) {i : CoilIx} (hif : i ∈ f.coils)
    (hig : i ∈ g.coils) : f = g := by
  obtain ⟨c, hc, tagC, hic⟩ := (State.joinedPans_mem hf i).1 hif
  obtain ⟨d, hd, tagD, hid⟩ := (State.joinedPans_mem hg i).1 hig
  obtain rfl := State.seniorComponents_disjoint hc hd hic hid
  exact State.joinedPans_ext hf hg (Option.some.inj (tagC.symm.trans tagD))

theorem State.joinedPans_whole {f : Fragment} (hf : f ∈ s.joinedPans) {i j : CoilIx} (hi : i ∈ f.coils)
    (adjacent : adjacentCoils i j = true) (hj : s.coveredCoil j = true) : j ∈ f.coils := by
  obtain ⟨c, hc, tag, hi⟩ := (State.joinedPans_mem hf i).1 hi
  exact (State.joinedPans_mem hf j).2 ⟨c, hc, tag, coilComponents_closed (State.coils_mem_components hc) hi adjacent hj⟩

theorem State.joinedPans_lead {f : Fragment} (hf : f ∈ s.joinedPans) :
    ∃ c ∈ s.seniorComponents, c.tag = some f.tag ∧ f.origin = c.origin ∧ f.program = c.program ∧ f.panContact = c.panContact ∧
      ∀ x ∈ s.seniorComponents, x.tag = some f.tag → c.origin.rank ≤ x.origin.rank := joinByTag_lead hf

theorem State.joinedPans_ne_nil {f : Fragment} (hf : f ∈ s.joinedPans) : f.coils ≠ [] := by
  obtain ⟨c, hc, tag, -⟩ := State.joinedPans_lead hf
  obtain ⟨i, hi⟩ := List.exists_mem_of_ne_nil _ (coilComponents_ne_nil (State.coils_mem_components hc))
  exact List.ne_nil_of_mem ((State.joinedPans_mem hf i).2 ⟨c, hc, tag, hi⟩)

/-- R27 to R34: the origin of a fragment accounts for its tag, its program and its pan contact. -/
theorem State.joinedPans_from {f : Fragment} (hf : f ∈ s.joinedPans) :
    s.From f.tag f.coils f.program f.panContact f.origin := by
  obtain ⟨c, hc, tag, origin, program, contact, leads⟩ := State.joinedPans_lead hf
  obtain ⟨t, ht, source⟩ := s.seniorComponents_traced c hc
  obtain rfl : t = f.tag := Option.some.inj (ht.symm.trans tag)
  have sub : ∀ i ∈ c.coils, i ∈ f.coils := fun i hi => (State.joinedPans_mem hf i).2 ⟨c, hc, tag, hi⟩
  rw [origin, program, contact]
  cases ho : c.origin with
  | tracked =>
    rw [ho] at source
    obtain ⟨g, hg, same, ⟨i, hi, hig⟩, rest⟩ := source
    exact ⟨g, hg, same, ⟨i, sub i hi, hig⟩, rest⟩
  | resumed =>
    rw [ho] at source
    obtain ⟨idle, l, hl, same, ⟨i, hi, hil⟩, rest⟩ := source
    exact ⟨idle, l, hl, same, ⟨i, sub i hi, hil⟩, rest⟩
  | carried =>
    rw [ho] at source
    obtain ⟨none, idle, e, he, same, faces⟩ := source
    exact ⟨none, idle, e, he, same, faces.mono sub⟩
  | new =>
    rw [ho] at source
    obtain ⟨none, idle, creator, -, fresh⟩ := source
    refine ⟨none, idle, creator, fun e he faces => ?_, fresh⟩
    have apart (x : Component) (hx : x ∈ s.seniorComponents) (hxt : x.tag = some f.tag) :
        ¬ Faces s.sup.position x.coils e := by
      have rank := leads x hx hxt
      obtain ⟨u, -, source⟩ := s.seniorComponents_traced x hx
      cases hxo : x.origin with
      | new =>
        rw [hxo] at source
        exact source.2.2.2.1 e he
      | tracked | resumed | carried => simp [ho, hxo, Origin.rank] at rank
    obtain ⟨area, r, left | right⟩ := faces
    · obtain ⟨x, hx, hxt, hi⟩ := (State.joinedPans_mem hf _).1 left.2.1
      exact apart x hx hxt ⟨area, r, .inl ⟨left.1, hi, left.2.2⟩⟩
    · obtain ⟨x, hx, hxt, hi⟩ := (State.joinedPans_mem hf _).1 right.2.1
      exact apart x hx hxt ⟨area, r, .inr ⟨right.1, hi, right.2.2⟩⟩

/-- R33: a fragment in contact touches a report with a program. -/
theorem State.joinedPans_contact {f : Fragment} (hf : f ∈ s.joinedPans) (contact : f.contact = true) :
    ∃ e ∈ s.link.peers, e.report.published ≠ none ∧ Touches s.sup.position s.coils (some f.tag) f.coils e := by
  obtain ⟨c, hc, tag, hcc⟩ := (joinByTag_joinedFrom hf).contact.1 contact
  obtain ⟨e, he, publishes, touches⟩ := State.seniorComponents_contact hc hcc
  exact ⟨e, he, publishes, tag ▸ touches.mono fun i hi => (State.joinedPans_mem hf i).2 ⟨c, hc, tag, hi⟩⟩

/-! ### Own history that nothing else claims -/

/-- R28: how a coil set ranks among those that name a candidate. -/
def historyKey (f : Fragment) (set : List CoilIx) : Nat := 8 * sharedCoils f.coils set + (7 - (set.head?.elim 0 Fin.val))

theorem outranks_key {f : Fragment} {other set : List CoilIx} (h : outranks f other set = true) :
    historyKey f set < historyKey f other := by
  unfold outranks at h
  unfold historyKey
  cases ho : other.head? with
  | none =>
    rw [ho] at h
    simp at h
    cases set.head? <;> simp <;> omega
  | some a =>
    cases hs : set.head? with
    | none =>
      rw [ho, hs] at h
      simp at h
      simp
      omega
    | some b =>
      rw [ho, hs] at h
      simp at h
      have := a.isLt
      have := b.isLt
      simp only [Option.elim_some]
      rcases h with h | ⟨h, lower⟩
      · omega
      · rw [h]
        have : a.val < b.val := lower
        omega

theorem candidateOf_isSome {previous : List Fragment} {set : List CoilIx} {f : Fragment} (hf : f ∈ previous)
    (shares : 0 < sharedCoils f.coils set) : ∃ g, candidateOf previous set = some g := by
  unfold candidateOf
  split
  · rename_i eq
    have := List.filter_eq_nil_iff.1 eq f hf
    simp [shares] at this
  · exact ⟨_, rfl⟩

/-- R28: of the coil sets that name one candidate alone, one takes its tag. -/
theorem State.historyComponents_own (apart : (s.tracker.pans.map fun g => g.tag).Nodup) {g : Fragment} (hg : g ∈ s.tracker.pans)
    (seen : ∃ i ∈ g.coils, s.coveredCoil i = true)
    (alone : ∀ i ∈ g.coils, s.coveredCoil i = true → ∀ h ∈ s.tracker.pans, ∀ j ∈ h.coils,
      j ∈ componentOf s.coveredCoil i → h = g) :
    ∃ c ∈ s.historyComponents, c.tag = some g.tag ∧ c.origin = .tracked ∧ c.program = g.program := by
  have named {set : List CoilIx} (hset : set ∈ coilComponents s.coveredCoil) (shares : 0 < sharedCoils g.coils set) :
      candidateOf s.tracker.pans set = some g := by
    obtain ⟨h, candidate⟩ := candidateOf_isSome hg shares
    obtain ⟨hh, hshares⟩ := candidateOf_mem candidate
    obtain ⟨i, hi, his⟩ := sharedCoils_pos.1 shares
    obtain ⟨j, hj, hjs⟩ := sharedCoils_pos.1 hshares
    obtain ⟨k, hk, rfl⟩ := mem_coilComponents.1 hset
    rw [← componentOf_eq hk his] at hjs
    rw [candidate, alone i hi (covered_of_mem_componentOf hk his) h hh j hj hjs]
  have namedBy {set : List CoilIx} {h : Fragment} (candidate : candidateOf s.tracker.pans set = some h) (tag : h.tag = g.tag) :
      0 < sharedCoils g.coils set := by
    obtain ⟨hh, hshares⟩ := candidateOf_mem candidate
    rwa [← List.inj_on_of_nodup_map apart hh hg tag]
  obtain ⟨k, hk, ck⟩ := seen
  have sharing (set : List CoilIx) :
      set ∈ ((coilComponents s.coveredCoil).filter fun set => decide (0 < sharedCoils g.coils set)).toFinset ↔
        set ∈ coilComponents s.coveredCoil ∧ 0 < sharedCoils g.coils set := by
    simp
  obtain ⟨set, hset, top⟩ := Finset.exists_max_image
    ((coilComponents s.coveredCoil).filter fun set => decide (0 < sharedCoils g.coils set)).toFinset (historyKey g)
    ⟨componentOf s.coveredCoil k, (sharing _).2 ⟨mem_coilComponents.2 ⟨k, ck, rfl⟩,
      sharedCoils_pos.2 ⟨k, hk, mem_componentOf_self ck⟩⟩⟩
  obtain ⟨hset, shares⟩ := (sharing _).1 hset
  have first : ((coilComponents s.coveredCoil).any fun other =>
      ((candidateOf s.tracker.pans other).any fun x => decide (x.tag = g.tag)) && outranks g other set) = false := by
    rw [List.any_eq_false]
    intro other hother
    simp only [Bool.and_eq_true, Option.any_eq_true, decide_eq_true_eq, not_and, Bool.not_eq_true]
    rintro ⟨h, candidate, tag⟩
    by_contra beats
    exact absurd (outranks_key (by simpa using beats)) (not_lt.2 (top other ((sharing _).2 ⟨hother, namedBy candidate tag⟩)))
  refine ⟨neighbourEdge s.sup.position s.link.peers
    (ownHistory s.tracker.pans (coilComponents s.coveredCoil) (untaggedComponent s.coils set)), ?_, ?_⟩
  · simp only [State.historyComponents, List.mem_map]
    exact ⟨_, ⟨set, hset, rfl⟩, rfl⟩
  · have eq : ownHistory s.tracker.pans (coilComponents s.coveredCoil) (untaggedComponent s.coils set) =
        { untaggedComponent s.coils set with
          tag := some g.tag, origin := .tracked, program := g.program, home := g.home, contact := g.contact,
          panContact := g.panContact } := by
      unfold ownHistory
      rw [show (untaggedComponent s.coils set).coils = set from rfl, named hset shares]
      simp only [first]
      rfl
    rw [eq, neighbourEdge_tagged (by simp)]
    exact ⟨rfl, rfl, rfl⟩

/-- R28, R33, R34: a fragment with a program whose coils no other one claims goes on as it is. -/
theorem State.joinedPans_history (apart : (s.tracker.pans.map fun g => g.tag).Nodup) {g : Fragment} (hg : g ∈ s.tracker.pans)
    (program : g.program ≠ none) (seen : ∃ i ∈ g.coils, s.coveredCoil i = true)
    (alone : ∀ i ∈ g.coils, s.coveredCoil i = true → ∀ h ∈ s.tracker.pans, ∀ j ∈ h.coils,
      j ∈ componentOf s.coveredCoil i → h = g) :
    ∃ f ∈ s.joinedPans, f.tag = g.tag ∧ f.origin = .tracked ∧ f.program = g.program := by
  obtain ⟨c, hc, tag, origin, own⟩ := State.historyComponents_own apart hg seen alone
  have tagged : c.tag ≠ none := by simp [tag]
  have resumed : c ∈ s.resumedTagging.comps := mem_foldl_resumeOne_of_tagged tagged _ (.inr hc)
  have complete : c ∈ s.tagComponents.comps := mem_newTags_of_tagged _ _ tagged _ (.inr resumed)
  have senior := seniorityOf_seniorTo s.sup.position s.coils s.link.peers tag
  obtain ⟨keepsTag, keepsOrigin⟩ := senior.keeps (by rw [own]; exact program)
  obtain ⟨f, hf, held, -⟩ := State.fragment_of_component (List.mem_map_of_mem complete :
    seniorityOf s.sup.position s.coils s.link.peers c ∈ s.seniorComponents)
  have same : f.tag = g.tag := Option.some.inj (held.symm.trans keepsTag)
  obtain ⟨d, -, -, lead, -, -, leads⟩ := State.joinedPans_lead hf
  have rank := leads _ (List.mem_map_of_mem complete) held
  have tracked : f.origin = .tracked := by
    rw [keepsOrigin, origin] at rank
    rw [lead]
    cases ho : d.origin <;> simp [ho, Origin.rank] at rank ⊢
  have source := State.joinedPans_from hf
  rw [tracked] at source
  obtain ⟨h, hh, tagH, -, programH, -⟩ := source
  rw [List.inj_on_of_nodup_map apart hh hg (tagH.trans same)] at programH
  exact ⟨f, hf, same, tracked, programH⟩

end Sys2Proof.Machine

/-! PROOFS. The tables a tracking update leaves, entry by entry (R35 to R39, R59): the last steps of a fragment, and the lifted list. -/

namespace Sys2Proof.Machine

open Sys2Proof

variable {s : State}

/-! ### The last steps of a fragment (R37 to R39) -/

/-- R37: the entries whose tag a fragment of the update holds. -/
def State.sameEntries (s : State) : List LiftedEntry :=
  (s.tagComponents.lifted ++ s.enteringEntries).filter fun e => s.joinedPans.any fun f => f.tag = e.tag

/-- R37 to R39: steps 9 to 11 of a fragment. -/
def State.finishPan (s : State) (f : Fragment) : Fragment :=
  joinFragment s.cache s.link.peers (homeAndContact s.sup.position s.link.peers (reclaimProgram s.sameEntries f))

theorem State.runUpdate_pans (s : State) : s.runUpdate.pans = s.joinedPans.map s.finishPan := by
  simp only [State.runUpdate, List.map_map]
  rfl

theorem reclaimProgram_frame (lifted : List LiftedEntry) (f : Fragment) :
    reclaimProgram lifted f = { f with program := (reclaimProgram lifted f).program } := by
  unfold reclaimProgram
  split
  · rfl
  · split <;> rfl

theorem joinFragment_frame (cache : List CacheEntry) (peers : List PeerEntry) (f : Fragment) :
    joinFragment cache peers f = { f with program := (joinFragment cache peers f).program } := by
  unfold joinFragment
  split
  · rfl
  · split <;> rfl

/-- R37: a program stays; a fragment without one takes that of an entry of its tag. -/
theorem reclaimProgram_cases (lifted : List LiftedEntry) (f : Fragment) :
    (reclaimProgram lifted f).program = f.program ∨
      f.program = none ∧ ∃ e ∈ lifted, e.tag = f.tag ∧ (reclaimProgram lifted f).program = e.program := by
  unfold reclaimProgram
  split
  · exact .inl rfl
  · rename_i bare
    split
    · rename_i e found
      exact .inr ⟨bare, e, List.mem_of_find?_eq_some found, by simpa using List.find?_some found, rfl⟩
    · exact .inl rfl

/-- R39: a program stays; a fragment without one has one afterwards exactly where the cache holds its tag. -/
theorem joinFragment_program (cache : List CacheEntry) (peers : List PeerEntry) (f : Fragment) :
    (f.program ≠ none → (joinFragment cache peers f).program = f.program) ∧
      ((joinFragment cache peers f).program = none ↔ f.program = none ∧ cacheEntry cache f.tag = none) := by
  unfold joinFragment
  split
  · rename_i p held
    simp [held]
  · rename_i bare
    split
    · rename_i uncached
      simp [bare, uncached]
    · rename_i e cached
      simp [bare, cached]

/-- Steps 9 to 11 change the program, the home flag and the pan contact of a fragment. -/
theorem State.finishPan_eq (s : State) (f : Fragment) :
    s.finishPan f =
      { f with
        home := isHome s.sup.position f.area (reportsOf s.link.peers f.tag)
        panContact := f.contact || (reportsOf s.link.peers f.tag).any fun e => e.report.contact
        program := (s.finishPan f).program } := by
  unfold State.finishPan
  rw [joinFragment_frame, reclaimProgram_frame]
  rfl

@[simp] theorem State.finishPan_tag (s : State) (f : Fragment) : (s.finishPan f).tag = f.tag := by rw [State.finishPan_eq]
@[simp] theorem State.finishPan_coils (s : State) (f : Fragment) : (s.finishPan f).coils = f.coils := by rw [State.finishPan_eq]
@[simp] theorem State.finishPan_area (s : State) (f : Fragment) : (s.finishPan f).area = f.area := by rw [State.finishPan_eq]
@[simp] theorem State.finishPan_edge (s : State) (f : Fragment) : (s.finishPan f).edge = f.edge := by rw [State.finishPan_eq]
@[simp] theorem State.finishPan_origin (s : State) (f : Fragment) : (s.finishPan f).origin = f.origin := by rw [State.finishPan_eq]
@[simp] theorem State.finishPan_contact (s : State) (f : Fragment) : (s.finishPan f).contact = f.contact := by rw [State.finishPan_eq]
@[simp] theorem State.finishPan_share (s : State) (f : Fragment) : (s.finishPan f).share = f.share := by rw [State.finishPan_eq]

theorem State.finishPan_home (s : State) (f : Fragment) :
    (s.finishPan f).home = isHome s.sup.position f.area (reportsOf s.link.peers f.tag) := by rw [State.finishPan_eq]

theorem State.finishPan_panContact (s : State) (f : Fragment) :
    (s.finishPan f).panContact = (f.contact || (reportsOf s.link.peers f.tag).any fun e => e.report.contact) := by
  rw [State.finishPan_eq]

theorem State.finishPan_program {f : Fragment} (h : f.program ≠ none) : (s.finishPan f).program = f.program := by
  have reclaimed : (reclaimProgram s.sameEntries f).program = f.program :=
    (reclaimProgram_cases s.sameEntries f).resolve_right fun bare => h bare.1
  unfold State.finishPan
  rw [(joinFragment_program _ _ _).1 (by exact reclaimed ▸ h)]
  exact reclaimed

theorem State.finishPan_joined {f : Fragment} {e : CacheEntry} (h : cacheEntry s.cache f.tag = some e) :
    (s.finishPan f).program ≠ none := fun none => by
  have := ((joinFragment_program _ _ _).2.1 none).2
  simp [h] at this

theorem mem_reportsOf {peers : List PeerEntry} {tag : Tag} {e : PeerEntry} :
    e ∈ reportsOf peers tag ↔ e ∈ peers ∧ e.report.tag = tag ∧ 0 < e.report.area := by
  simp [reportsOf]

theorem isHome_iff {position : Position} {area : Nat} {peers : List PeerEntry} {tag : Tag} :
    isHome position area (reportsOf peers tag) = true ↔
      ∀ e ∈ peers, e.report.tag = tag → 0 < e.report.area →
        e.report.area < area ∨ e.report.area = area ∧ position < e.source := by
  simp [isHome, mem_reportsOf, and_imp]

/-! ### Released tags (R35, R36) -/

/-- R35: no fragment of the update holds the tag. -/
def State.Released (s : State) (tag : Tag) : Prop := ∀ f ∈ s.joinedPans, f.tag ≠ tag

theorem not_released {tag : Tag} : ¬ s.Released tag ↔ ∃ f ∈ s.joinedPans, f.tag = tag := by simp [State.Released]

theorem mem_releasedOf {g : Fragment} : g ∈ releasedOf s.tracker.pans s.joinedPans ↔ g ∈ s.tracker.pans ∧ s.Released g.tag := by
  simp [releasedOf, State.Released]

/-- R35: step 6 has given the tag up. -/
def State.abandonedTags (s : State) : List Tag :=
  (s.tagComponents.comps.filterMap fun c => c.tag).filter fun x => !s.seniorComponents.any fun c => c.tag = some x

/-- R36: the entries of step 8. -/
theorem State.mem_enteringEntries {e : LiftedEntry} :
    e ∈ s.enteringEntries ↔
      ∃ g ∈ s.tracker.pans, s.Released g.tag ∧ g.program ≠ none ∧ g.tag ∉ s.abandonedTags ∧
        liftedEntryOf s.link.peers s.joinedPans g = e := by
  have form : s.enteringEntries =
      enteringOf s.link.peers s.joinedPans s.abandonedTags (releasedOf s.tracker.pans s.joinedPans) := rfl
  rw [form, enteringOf, List.mem_map]
  simp only [List.mem_filter, mem_releasedOf, Bool.and_eq_true, Option.isSome_iff_ne_none, Bool.not_eq_true',
    List.contains_eq_mem, decide_eq_false_iff_not, and_assoc]

/-- R36: the entry of a released tag. -/
theorem State.liftedEntryOf_eq (s : State) (g : Fragment) :
    liftedEntryOf s.link.peers s.joinedPans g =
      { tag := g.tag
        footprint := g.coils
        program := g.program
        grace := 8
        wasHome := g.home
        cause := if ∃ f ∈ s.joinedPans, ∃ i ∈ g.coils, i ∈ f.coils then .merged else .lifted
        confirmed := decide (s.Unreported g.tag) } := by
  have confirmed : (reportsOf s.link.peers g.tag).isEmpty = decide (s.Unreported g.tag) := by
    rw [Bool.eq_iff_iff, s.unreported_iff, decide_eq_true_eq]
  have merged : (s.joinedPans.any fun f => decide (0 < sharedCoils f.coils g.coils)) = true ↔
      ∃ f ∈ s.joinedPans, ∃ i ∈ g.coils, i ∈ f.coils := by
    simp only [List.any_eq_true, decide_eq_true_eq, sharedCoils_pos]
    exact exists_congr fun f => and_congr_right fun _ => exists_congr fun i => And.comm
  unfold liftedEntryOf
  rw [confirmed]
  simp only [merged, Config.graceTicks]

theorem State.tagComponents_lifted_mem {l : LiftedEntry} (h : l ∈ s.tagComponents.lifted) : l ∈ s.tracker.lifted :=
  s.tagComponents_lifted.subset h

/-! ### The lifted list (R37) -/

/-- R37, R42: an entry as the upkeep leaves it. -/
def State.upkept (s : State) (e : LiftedEntry) : LiftedEntry :=
  { e with confirmed := e.confirmed || decide (s.Unreported e.tag) }

theorem State.mem_keptEntries {e : LiftedEntry} :
    e ∈ s.keptEntries ↔
      ∃ x, (x ∈ s.tagComponents.lifted ∨ x ∈ s.enteringEntries) ∧ s.Released x.tag ∧ s.upkept x = e := by
  have upkept (x : LiftedEntry) :
      ({ x with confirmed := x.confirmed || !x.confirmed && (reportsOf s.link.peers x.tag).isEmpty } : LiftedEntry) =
        s.upkept x := by
    have confirmed : (reportsOf s.link.peers x.tag).isEmpty = decide (s.Unreported x.tag) := by
      rw [Bool.eq_iff_iff, s.unreported_iff, decide_eq_true_eq]
    rw [confirmed]
    unfold State.upkept
    cases x.confirmed <;> simp
  have form : s.keptEntries =
      ((s.tagComponents.lifted ++ s.enteringEntries).filter fun e => !s.joinedPans.any fun f => f.tag = e.tag).map s.upkept :=
    List.map_congr_left fun x _ => upkept x
  rw [form, List.mem_map]
  simp only [List.mem_filter, List.mem_append, and_assoc, State.Released, Bool.not_eq_true', List.any_eq_false,
    decide_eq_true_eq]

theorem State.upkept_entering {e : LiftedEntry} (h : e ∈ s.enteringEntries) : s.upkept e = e := by
  obtain ⟨g, -, -, -, -, rfl⟩ := State.mem_enteringEntries.1 h
  rw [State.liftedEntryOf_eq]
  simp [State.upkept]

/-- R37: an entry of the list stays, or is evicted and requests GONE where it was confirmed and this module was home. -/
theorem evictLifted_cases (n : Nat) {l : List LiftedEntry} {e : LiftedEntry} (h : e ∈ l) :
    e ∈ (evictLifted n l).1 ∨
      (e.confirmed = true → e.wasHome = true → (e.tag, NoticeKind.gone) ∈ (evictLifted n l).2) := by
  induction n generalizing l with
  | zero => exact .inl h
  | succ n ih =>
    unfold evictLifted
    split
    · simp at h
    · rename_i x xs
      split
      · exact .inl h
      · dsimp only
        by_cases out : e = nextEvicted x xs
        · refine .inr fun confirmed home => List.mem_append_left _ ?_
          rw [← out]
          simp [confirmed, home]
        · have kept : e ∈ (x :: xs).erase (nextEvicted x xs) := (List.mem_erase_of_ne out).2 h
          exact (ih kept).imp id fun due confirmed home => List.mem_append_right _ (due confirmed home)

/-- R37: a GONE of the upkeep is that of a confirmed entry of this home, evicted from a list that then holds 4. -/
theorem evictLifted_gone {n : Nat} {l : List LiftedEntry} (enough : l.length ≤ n) {r : Request} (h : r ∈ (evictLifted n l).2) :
    (evictLifted n l).1.length = 4 ∧
      ∃ e ∈ l, e.confirmed = true ∧ e.wasHome = true ∧ r = (e.tag, .gone) := by
  have size {n : Nat} {l : List LiftedEntry} (enough : l.length ≤ n) (full : 4 ≤ l.length) : (evictLifted n l).1.length = 4 := by
    induction n generalizing l with
    | zero => omega
    | succ n ih =>
      unfold evictLifted
      split
      · simp at full
      · rename_i x xs
        split
        · rename_i four
          exact le_antisymm four full
        · rename_i more
          simp only [Config.liftedListSize, List.length_cons] at more enough
          refine ih ?_ ?_ <;> rw [List.length_erase_of_mem (nextEvicted_mem _ _)] <;> simp only [List.length_cons] <;> omega
  induction n generalizing l with
  | zero => simp [evictLifted] at h
  | succ n ih =>
    unfold evictLifted at h ⊢
    split at h
    · simp at h
    · rename_i x xs
      split at h
      · simp at h
      · rename_i more
        rw [if_neg more]
        have erased : ((x :: xs).erase (nextEvicted x xs)).length = xs.length := by
          rw [List.length_erase_of_mem (nextEvicted_mem _ _), List.length_cons, Nat.add_sub_cancel]
        have fits : ((x :: xs).erase (nextEvicted x xs)).length ≤ n := by simpa [erased] using enough
        refine ⟨size fits ?_, ?_⟩
        · simp only [Config.liftedListSize, List.length_cons] at more
          omega
        · rcases List.mem_append.1 h with h | h
          · split at h
            · rename_i due
              rw [Bool.and_eq_true] at due
              exact ⟨_, nextEvicted_mem _ _, due.1, due.2, List.mem_singleton.1 h⟩
            · simp at h
          · obtain ⟨-, e, he, rest⟩ := ih fits h
            exact ⟨e, List.mem_of_mem_erase he, rest⟩

/-- R37: at most four entries are not evicted. -/
theorem evictLifted_few {n : Nat} {l : List LiftedEntry} (few : l.length ≤ 4) : (evictLifted n l).1 = l := by
  cases n with
  | zero => rfl
  | succ n =>
    unfold evictLifted
    split
    · rfl
    · exact congrArg Prod.fst (if_pos few)

/-- R36, R37: where the entries of an update come from. -/
theorem State.runUpdate_lifted_source {e : LiftedEntry} (h : e ∈ s.runUpdate.lifted) :
    (∃ l ∈ s.tracker.lifted, e = s.upkept l) ∨
      ∃ g ∈ s.tracker.pans, g.program ≠ none ∧ e = liftedEntryOf s.link.peers s.joinedPans g := by
  rw [s.runUpdate_lifted] at h
  obtain ⟨x, hx | hx, -, rfl⟩ := State.mem_keptEntries.1 ((evictLifted_sublist _ _).subset h)
  · exact .inl ⟨x, State.tagComponents_lifted_mem hx, rfl⟩
  · rw [State.upkept_entering hx]
    obtain ⟨g, hg, -, program, -, rfl⟩ := State.mem_enteringEntries.1 hx
    exact .inr ⟨g, hg, program, rfl⟩

/-- R35: a released tag that no report, no lifted entry and no new serial gave back was not given up at step 6. -/
theorem State.not_abandoned (apart : (s.tracker.pans.map fun g => g.tag).Nodup)
    (few : s.tracker.lifted.length + s.tracker.pans.length ≤ 4) {g : Fragment} (hg : g ∈ s.tracker.pans) (program : g.program ≠ none)
    (unheard : ∀ e ∈ s.link.peers, e.report.tag ≠ g.tag) (unlifted : ∀ l ∈ s.tracker.lifted, l.tag ≠ g.tag) :
    g.tag ∉ s.abandonedTags := by
  unfold State.abandonedTags
  simp only [List.mem_filter, List.mem_filterMap, not_and, Bool.not_eq_true, Bool.not_eq_false']
  rintro ⟨c, hc, tag⟩
  obtain ⟨t, ht, source⟩ := s.tagComponents_traced c hc
  obtain rfl : t = g.tag := Option.some.inj (ht.symm.trans tag)
  have held : c.program ≠ none := by
    cases origin : c.origin <;> rw [origin] at source
    case tracked =>
      obtain ⟨x, hx, same, -, own, -⟩ := source
      rw [List.inj_on_of_nodup_map apart hx hg same] at own
      exact own ▸ program
    case resumed =>
      obtain ⟨-, l, hl, same, -⟩ := source
      exact absurd same (unlifted l hl)
    case carried =>
      obtain ⟨-, -, e, he, same, -⟩ := source
      exact absurd same (unheard e he)
    case new =>
      obtain ⟨-, -, -, -, fresh⟩ := source
      exact absurd rfl ((fresh (by omega) (by omega)).1 g hg)
  have senior := seniorityOf_seniorTo s.sup.position s.coils s.link.peers tag
  exact List.any_eq_true.2 ⟨_, List.mem_map_of_mem hc, by simpa using (senior.keeps held).1⟩

/-- R36: with room in the list such a tag leaves a confirmed entry. -/
theorem State.released_entry (apart : (s.tracker.pans.map fun g => g.tag).Nodup)
    (few : s.tracker.lifted.length + s.tracker.pans.length ≤ 4) {g : Fragment} (hg : g ∈ s.tracker.pans) (program : g.program ≠ none)
    (released : s.Released g.tag) (unheard : ∀ e ∈ s.link.peers, e.report.tag ≠ g.tag)
    (unlifted : ∀ l ∈ s.tracker.lifted, l.tag ≠ g.tag) : ∃ e ∈ s.runUpdate.lifted, e.tag = g.tag ∧ e.confirmed = true := by
  have size : s.keptEntries.length ≤ 4 := by
    have := s.keptEntries_tags.length_le
    simp only [List.length_map, List.length_append] at this
    omega
  have entry : liftedEntryOf s.link.peers s.joinedPans g ∈ s.enteringEntries :=
    State.mem_enteringEntries.2 ⟨g, hg, released, program, State.not_abandoned apart few hg program unheard unlifted, rfl⟩
  refine ⟨liftedEntryOf s.link.peers s.joinedPans g, ?_, rfl, ?_⟩
  · rw [s.runUpdate_lifted, evictLifted_few size]
    exact State.mem_keptEntries.2 ⟨_, .inr entry, released, State.upkept_entering entry⟩
  · rw [State.liftedEntryOf_eq, decide_eq_true_eq]
    exact fun e he same => absurd same (unheard e he)

/-- R66: where no program was held before, step 11 has joined one exactly where a fragment holds one. -/
theorem State.runUpdate_joined (pans : ∀ g ∈ s.tracker.pans, g.program = none) (lifted : ∀ l ∈ s.tracker.lifted, l.program = none) :
    s.runUpdate.joined = true ↔ ∃ f ∈ s.joinedPans, (s.finishPan f).program ≠ none := by
  have bare : ∀ f ∈ s.joinedPans, (reclaimProgram s.sameEntries f).program = none := by
    intro f hf
    rcases reclaimProgram_cases s.sameEntries f with same | ⟨-, e, he, -, taken⟩
    · rw [same]
      have source := State.joinedPans_from hf
      cases origin : f.origin <;> rw [origin] at source
      case tracked =>
        obtain ⟨g, hg, -, -, own, -⟩ := source
        rw [own, pans g hg]
      case resumed =>
        obtain ⟨-, l, hl, -, -, own⟩ := source
        rw [own, lifted l hl]
      case carried => exact source.1
      case new => exact source.1
    · rw [taken]
      rcases List.mem_append.1 (List.mem_of_mem_filter he) with he | he
      · exact lifted e (State.tagComponents_lifted_mem he)
      · obtain ⟨g, hg, -, program, -, -⟩ := State.mem_enteringEntries.1 he
        exact absurd (pans g hg) program
  have form : s.runUpdate.joined = s.joinedPans.any fun f =>
      (reclaimProgram s.sameEntries f).program.isNone && (s.finishPan f).program.isSome := by
    have pairs (l : List Fragment) (h k : Fragment → Fragment) :
        ((l.map h).zip ((l.map h).map k)).any (fun x => x.1.program.isNone && x.2.program.isSome) =
          l.any fun f => (h f).program.isNone && (k (h f)).program.isSome := by
      rw [List.map_map, List.zip_map', List.any_map]
      rfl
    exact (pairs (s.joinedPans.map (reclaimProgram s.sameEntries)) (homeAndContact s.sup.position s.link.peers)
      (joinFragment s.cache s.link.peers)).trans (by simp [List.any_map]; rfl)
  rw [form, List.any_eq_true]
  refine exists_congr fun f => and_congr_right fun hf => ?_
  rw [bare f hf]
  simp [Option.isSome_iff_ne_none]

end Sys2Proof.Machine

/-! PROOFS. The notice requests of a tracking update (R30, R31, R36 to R38, Table 2-5). -/

namespace Sys2Proof.Machine

open Sys2Proof

variable {s : State}

/-! ### The tables after the update -/

theorem State.trackingUpdate_tracker (s : State) :
    s.trackingUpdate.tracker =
      { pans := s.joinedPans.map s.finishPan, lifted := s.runUpdate.lifted, serial := s.tagComponents.serial } := by
  rw [← s.runUpdate_pans]
  exact congrArg (fun u : State => u.tracker) s.trackingUpdate_frame

theorem State.forall_updated {P : Fragment → Prop} :
    (∀ f ∈ s.trackingUpdate.tracker.pans, P f) ↔ ∀ f ∈ s.joinedPans, P (s.finishPan f) := by
  rw [State.trackingUpdate_tracker, List.forall_mem_map]

theorem State.exists_updated {P : Fragment → Prop} :
    (∃ f ∈ s.trackingUpdate.tracker.pans, P f) ↔ ∃ f ∈ s.joinedPans, P (s.finishPan f) := by
  rw [State.trackingUpdate_tracker]
  simp only [List.mem_map, exists_exists_and_eq_and]

/-- R35: a released tag is one that no fragment of the new table holds. -/
theorem State.released_iff {tag : Tag} : (∀ f ∈ s.trackingUpdate.tracker.pans, f.tag ≠ tag) ↔ s.Released tag := by
  simp only [State.forall_updated, State.finishPan_tag]
  rfl

theorem State.holds_iff {tag : Tag} : (∃ f ∈ s.trackingUpdate.tracker.pans, f.tag = tag) ↔ ∃ f ∈ s.joinedPans, f.tag = tag := by
  simp only [State.exists_updated, State.finishPan_tag]

theorem State.covers_iff {g : Fragment} :
    (∃ f ∈ s.trackingUpdate.tracker.pans, ∃ i ∈ g.coils, i ∈ f.coils) ↔ ∃ f ∈ s.joinedPans, ∃ i ∈ g.coils, i ∈ f.coils := by
  simp only [State.exists_updated, State.finishPan_coils]

/-! ### The requests, step by step -/

/-- R36: step 8. -/
def State.enteredRequests (s : State) : List Request := (s.enteringEntries.filter (·.confirmed)).flatMap confirmRequest

/-- R37: step 9, the entries of a fragment's tag. -/
def State.sameRequests (s : State) : List Request :=
  s.sameEntries.flatMap fun e => if e.confirmed && e.wasHome then [(e.tag, NoticeKind.returned)] else []

/-- R37: step 9, the entries no report is left of. -/
def State.lateRequests (s : State) : List Request :=
  (((s.tagComponents.lifted ++ s.enteringEntries).filter fun e => !s.joinedPans.any fun f => f.tag = e.tag).filter fun e =>
    !e.confirmed && (reportsOf s.link.peers e.tag).isEmpty).flatMap confirmRequest

/-- R37: step 9, the evictions. -/
def State.goneRequests (s : State) : List Request := (evictLifted s.keptEntries.length s.keptEntries).2

/-- R38: step 10. -/
def State.contactRequests (s : State) : List Request :=
  s.joinedPans.flatMap fun f =>
    contactRequest (reclaimProgram s.sameEntries f)
      (homeAndContact s.sup.position s.link.peers (reclaimProgram s.sameEntries f))

theorem State.runUpdate_requests (s : State) :
    s.runUpdate.requests =
      s.tagComponents.requests ++ s.enteredRequests ++ s.sameRequests ++ s.lateRequests ++ s.goneRequests ++ s.contactRequests := by
  have pairs (l : List Fragment) (h k : Fragment → Fragment) :
      ((l.map h).zip ((l.map h).map k)).flatMap (fun x => contactRequest x.1 x.2) =
        l.flatMap fun f => contactRequest (h f) (k (h f)) := by
    rw [List.map_map, List.zip_map', List.flatMap_map]
    rfl
  have contacts := pairs s.joinedPans (reclaimProgram s.sameEntries) (homeAndContact s.sup.position s.link.peers)
  unfold State.contactRequests
  rw [← contacts]
  unfold State.goneRequests
  simp only [State.keptEntries, List.length_map]
  rfl

theorem mem_confirmRequest {e : LiftedEntry} {r : Request} :
    r ∈ confirmRequest e ↔ e.wasHome = true ∧ r = (e.tag, e.cause.notice) := by
  unfold confirmRequest
  split <;> simp_all

theorem LiftCause.notice_cases (c : LiftCause) : c.notice = .lifted ∨ c.notice = .merged := by cases c <;> simp [LiftCause.notice]

theorem State.mem_enteredRequests {r : Request} :
    r ∈ s.enteredRequests ↔
      ∃ e ∈ s.enteringEntries, e.confirmed = true ∧ e.wasHome = true ∧ r = (e.tag, e.cause.notice) := by
  simp only [State.enteredRequests, List.mem_flatMap, List.mem_filter, mem_confirmRequest, and_assoc]

theorem State.mem_sameEntries {e : LiftedEntry} :
    e ∈ s.sameEntries ↔ e ∈ s.tagComponents.lifted ∧ ∃ f ∈ s.joinedPans, f.tag = e.tag := by
  simp only [State.sameEntries, List.mem_filter, List.mem_append, List.any_eq_true, decide_eq_true_eq]
  constructor
  · rintro ⟨he | he, held⟩
    · exact ⟨he, held⟩
    · obtain ⟨g, -, released, -, -, rfl⟩ := State.mem_enteringEntries.1 he
      exact absurd released (not_released.2 held)
  · exact fun ⟨he, held⟩ => ⟨.inl he, held⟩

theorem State.mem_sameRequests {r : Request} :
    r ∈ s.sameRequests ↔
      ∃ e ∈ s.tagComponents.lifted, (∃ f ∈ s.joinedPans, f.tag = e.tag) ∧ e.confirmed = true ∧ e.wasHome = true ∧
        r = (e.tag, .returned) := by
  simp only [State.sameRequests, List.mem_flatMap, State.mem_sameEntries, and_assoc]
  refine exists_congr fun e => and_congr_right fun _ => and_congr_right fun _ => ?_
  split <;> simp_all

theorem State.mem_lateRequests {r : Request} :
    r ∈ s.lateRequests ↔
      ∃ e ∈ s.tagComponents.lifted, s.Released e.tag ∧ e.confirmed = false ∧ s.Unreported e.tag ∧ e.wasHome = true ∧
        r = (e.tag, e.cause.notice) := by
  simp only [State.lateRequests, List.mem_flatMap, List.mem_filter, List.mem_append, mem_confirmRequest, Bool.and_eq_true,
    Bool.not_eq_true', List.any_eq_false, decide_eq_true_eq, s.unreported_iff, and_assoc]
  refine exists_congr fun e => ⟨?_, fun ⟨he, rest⟩ => ⟨.inl he, rest⟩⟩
  rintro ⟨he | he, released, unconfirmed, unreported, rest⟩
  · exact ⟨he, released, unconfirmed, unreported, rest⟩
  · obtain ⟨g, -, -, -, -, rfl⟩ := State.mem_enteringEntries.1 he
    rw [State.liftedEntryOf_eq] at unconfirmed unreported
    exact absurd unreported (of_decide_eq_false unconfirmed)

theorem State.mem_goneRequests {r : Request} (h : r ∈ s.goneRequests) :
    s.runUpdate.lifted.length = 4 ∧ ∃ e ∈ s.keptEntries, e.confirmed = true ∧ e.wasHome = true ∧ r = (e.tag, .gone) := by
  rw [s.runUpdate_lifted]
  exact evictLifted_gone le_rfl h

theorem State.mem_contactRequests {r : Request} :
    r ∈ s.contactRequests ↔
      ∃ f ∈ s.joinedPans, (s.finishPan f).home = true ∧ f.panContact = false ∧ (s.finishPan f).panContact = true ∧
        r = (f.tag, .contact) := by
  simp only [State.contactRequests, List.mem_flatMap]
  refine exists_congr fun f => and_congr_right fun _ => ?_
  rw [reclaimProgram_frame, State.finishPan_home, State.finishPan_panContact]
  unfold contactRequest homeAndContact
  split <;> simp_all

/-- R30, R31: the requests of steps 4 and 5. -/
theorem State.tagComponents_requests (s : State) :
    ∃ created, s.tagComponents.requests = s.resumedTagging.requests ++ created.map (fun tag => (tag, .appeared)) ∧
      s.Creating s.resumedTagging.requests created [] s.tagComponents := by
  obtain ⟨created, creating⟩ := s.tagComponents_creating
  exact ⟨created, creating.requests, creating⟩

/-! ### Requests by kind -/

theorem State.mem_requests_iff {r : Request} :
    r ∈ s.runUpdate.requests ↔
      r ∈ s.tagComponents.requests ∨ r ∈ s.enteredRequests ∨ r ∈ s.sameRequests ∨ r ∈ s.lateRequests ∨ r ∈ s.goneRequests ∨
        r ∈ s.contactRequests := by
  simp only [State.runUpdate_requests, List.mem_append, or_assoc]

theorem kind_of_entered {r : Request} (h : r ∈ s.enteredRequests) : r.2 = .lifted ∨ r.2 = .merged := by
  obtain ⟨e, -, -, -, rfl⟩ := State.mem_enteredRequests.1 h
  exact LiftCause.notice_cases _

theorem kind_of_same {r : Request} (h : r ∈ s.sameRequests) : r.2 = .returned := by
  obtain ⟨e, -, -, -, -, rfl⟩ := State.mem_sameRequests.1 h
  rfl

theorem kind_of_late {r : Request} (h : r ∈ s.lateRequests) : r.2 = .lifted ∨ r.2 = .merged := by
  obtain ⟨e, -, -, -, -, -, rfl⟩ := State.mem_lateRequests.1 h
  exact LiftCause.notice_cases _

theorem kind_of_gone {r : Request} (h : r ∈ s.goneRequests) : r.2 = .gone := by
  obtain ⟨-, e, -, -, -, rfl⟩ := State.mem_goneRequests h
  rfl

theorem kind_of_contact {r : Request} (h : r ∈ s.contactRequests) : r.2 = .contact := by
  obtain ⟨f, -, -, -, -, rfl⟩ := State.mem_contactRequests.1 h
  rfl

theorem kind_of_tagging {r : Request} (h : r ∈ s.tagComponents.requests) : r.2 = .returned ∨ r.2 = .appeared := by
  obtain ⟨created, eq, -⟩ := s.tagComponents_requests
  rw [eq, List.mem_append, List.mem_map] at h
  rcases h with h | ⟨_, -, rfl⟩
  · exact .inl (s.resumedTagging_resuming.requests r h).1
  · exact .inr rfl

theorem State.appeared_mem {tag : Tag} :
    (tag, NoticeKind.appeared) ∈ s.runUpdate.requests ↔ (tag, NoticeKind.appeared) ∈ s.tagComponents.requests := by
  refine State.mem_requests_iff.trans ⟨?_, .inl⟩
  rintro (h | h | h | h | h | h)
  · exact h
  · exact absurd (kind_of_entered h) (by simp)
  · exact absurd (kind_of_same h) (by simp)
  · exact absurd (kind_of_late h) (by simp)
  · exact absurd (kind_of_gone h) (by simp)
  · exact absurd (kind_of_contact h) (by simp)

theorem State.returned_mem {tag : Tag} :
    (tag, NoticeKind.returned) ∈ s.runUpdate.requests ↔
      (tag, NoticeKind.returned) ∈ s.resumedTagging.requests ∨ (tag, NoticeKind.returned) ∈ s.sameRequests := by
  refine State.mem_requests_iff.trans ⟨?_, ?_⟩
  · rintro (h | h | h | h | h | h)
    · obtain ⟨created, eq, -⟩ := s.tagComponents_requests
      rw [eq, List.mem_append] at h
      exact .inl (h.resolve_right (by simp))
    · exact absurd (kind_of_entered h) (by simp)
    · exact .inr h
    · exact absurd (kind_of_late h) (by simp)
    · exact absurd (kind_of_gone h) (by simp)
    · exact absurd (kind_of_contact h) (by simp)
  · rintro (h | h)
    · obtain ⟨created, eq, -⟩ := s.tagComponents_requests
      exact .inl (by rw [eq]; exact List.mem_append_left _ h)
    · exact .inr (.inr (.inl h))

theorem State.gone_mem {tag : Tag} :
    (tag, NoticeKind.gone) ∈ s.runUpdate.requests ↔ (tag, NoticeKind.gone) ∈ s.goneRequests := by
  refine State.mem_requests_iff.trans ⟨?_, fun h => .inr (.inr (.inr (.inr (.inl h))))⟩
  rintro (h | h | h | h | h | h)
  · exact absurd (kind_of_tagging h) (by simp)
  · exact absurd (kind_of_entered h) (by simp)
  · exact absurd (kind_of_same h) (by simp)
  · exact absurd (kind_of_late h) (by simp)
  · exact h
  · exact absurd (kind_of_contact h) (by simp)

theorem State.contact_mem {tag : Tag} :
    (tag, NoticeKind.contact) ∈ s.runUpdate.requests ↔ (tag, NoticeKind.contact) ∈ s.contactRequests := by
  refine State.mem_requests_iff.trans ⟨?_, fun h => .inr (.inr (.inr (.inr (.inr h))))⟩
  rintro (h | h | h | h | h | h)
  · exact absurd (kind_of_tagging h) (by simp)
  · exact absurd (kind_of_entered h) (by simp)
  · exact absurd (kind_of_same h) (by simp)
  · exact absurd (kind_of_late h) (by simp)
  · exact absurd (kind_of_gone h) (by simp)
  · exact h

theorem State.confirmed_mem {tag : Tag} {kind : NoticeKind} (hk : kind = .lifted ∨ kind = .merged) :
    (tag, kind) ∈ s.runUpdate.requests ↔ (tag, kind) ∈ s.enteredRequests ∨ (tag, kind) ∈ s.lateRequests := by
  refine State.mem_requests_iff.trans ⟨?_, ?_⟩
  · rintro (h | h | h | h | h | h)
    · exact absurd (kind_of_tagging h) (by rcases hk with rfl | rfl <;> simp)
    · exact .inl h
    · exact absurd (kind_of_same h) (by rcases hk with rfl | rfl <;> simp)
    · exact .inr h
    · exact absurd (kind_of_gone h) (by rcases hk with rfl | rfl <;> simp)
    · exact absurd (kind_of_contact h) (by rcases hk with rfl | rfl <;> simp)
  · rintro (h | h)
    · exact .inr (.inl h)
    · exact .inr (.inr (.inr (.inl h)))

/-! ### What each kind says -/

/-- R30: an entry that left the list before step 9 has requested RETURNED. -/
theorem State.resumed_request (apart : (s.tracker.lifted.map fun l => l.tag).Nodup) {l : LiftedEntry} (hl : l ∈ s.tracker.lifted)
    (confirmed : l.confirmed = true) (home : l.wasHome = true) :
    l ∈ s.tagComponents.lifted ∨ (l.tag, NoticeKind.returned) ∈ s.runUpdate.requests := by
  have same : s.tagComponents.lifted = s.resumedTagging.lifted := newTags_lifted _ _ _ _
  rw [same]
  refine (s.resumedTagging_resuming.left l hl).imp id fun ⟨_, e, he, tag, due⟩ => ?_
  obtain rfl := List.inj_on_of_nodup_map apart he hl tag
  exact State.returned_mem.2 (.inl (due confirmed home))

/-- R36, R37: a confirmed entry that was not confirmed before requests its cause. -/
theorem State.cause_request {e : LiftedEntry} (he : e ∈ s.runUpdate.lifted) (confirmed : e.confirmed = true)
    (home : e.wasHome = true) (before : ∀ l ∈ s.tracker.lifted, l.tag = e.tag → l.confirmed = false) :
    (e.tag, e.cause.notice) ∈ s.runUpdate.requests := by
  rw [State.confirmed_mem (LiftCause.notice_cases _)]
  rw [s.runUpdate_lifted] at he
  obtain ⟨x, hx | hx, released, rfl⟩ := State.mem_keptEntries.1 ((evictLifted_sublist _ _).subset he)
  · have unconfirmed := before x (State.tagComponents_lifted_mem hx) rfl
    have unreported : s.Unreported x.tag := by
      simp only [State.upkept, unconfirmed, Bool.false_or, decide_eq_true_eq] at confirmed
      exact confirmed
    exact .inr (State.mem_lateRequests.2 ⟨x, hx, released, unconfirmed, unreported, home, rfl⟩)
  · rw [State.upkept_entering hx] at confirmed home ⊢
    exact .inl (State.mem_enteredRequests.2 ⟨x, hx, confirmed, home, rfl⟩)

/-- R36: what an entry of step 8 says of the fragment that lost the tag. -/
theorem State.entering_source {e : LiftedEntry} (h : e ∈ s.enteringEntries) :
    ∃ g ∈ s.tracker.pans, g.tag = e.tag ∧ g.program ≠ none ∧ g.home = e.wasHome ∧ (e.confirmed = true → s.Unreported e.tag) ∧
      s.Released e.tag ∧ e.cause.notice = if ∃ f ∈ s.joinedPans, ∃ i ∈ g.coils, i ∈ f.coils then .merged else .lifted := by
  obtain ⟨g, hg, released, program, -, rfl⟩ := State.mem_enteringEntries.1 h
  rw [State.liftedEntryOf_eq]
  refine ⟨g, hg, rfl, program, rfl, fun h => of_decide_eq_true h, released, ?_⟩
  dsimp only
  split_ifs <;> rfl

theorem State.kept_source {e : LiftedEntry} (h : e ∈ s.keptEntries) (confirmed : e.confirmed = true) (home : e.wasHome = true) :
    (∃ l ∈ s.tracker.lifted, l.tag = e.tag ∧ l.wasHome = true ∧ (l.confirmed = true ∨ s.Unreported e.tag)) ∨
      ∃ g ∈ s.tracker.pans, g.tag = e.tag ∧ g.home = true ∧ s.Unreported e.tag := by
  obtain ⟨x, hx | hx, -, rfl⟩ := State.mem_keptEntries.1 h
  · exact .inl ⟨x, State.tagComponents_lifted_mem hx, rfl, home, by simpa [State.upkept] using confirmed⟩
  · rw [State.upkept_entering hx] at confirmed home ⊢
    obtain ⟨g, hg, tag, -, same, unreported, -⟩ := State.entering_source hx
    exact .inr ⟨g, hg, tag, same.trans home, unreported confirmed⟩

/-- R38: the pan contact a fragment has before step 10 is that of its own history. -/
theorem State.panContact_before (apart : (s.tracker.pans.map fun g => g.tag).Nodup) {f : Fragment} (hf : f ∈ s.joinedPans) :
    f.panContact = true ↔ f.origin = .tracked ∧ ∃ g ∈ s.tracker.pans, g.tag = f.tag ∧ g.panContact = true := by
  have source := State.joinedPans_from hf
  cases origin : f.origin <;> rw [origin] at source
  case tracked =>
    obtain ⟨g, hg, tag, -, -, own⟩ := source
    constructor
    · exact fun h => ⟨rfl, g, hg, tag, own ▸ h⟩
    · rintro ⟨-, x, hx, same, contact⟩
      rw [own, ← List.inj_on_of_nodup_map apart hx hg (same.trans tag.symm), contact]
  case resumed => simp [source.1]
  case carried => simp [source.2.1]
  case new => simp [source.2.1]

/-- R31: a new fragment has requested APPEARED. -/
theorem State.appeared_request {f : Fragment} (hf : f ∈ s.joinedPans) (origin : f.origin = .new) :
    (f.tag, NoticeKind.appeared) ∈ s.runUpdate.requests := by
  obtain ⟨created, eq, creating⟩ := s.tagComponents_requests
  obtain ⟨c, hc, tag, lead, -⟩ := State.joinedPans_lead hf
  obtain ⟨d, hd, tagD, originD⟩ := State.seniorComponents_own hc (by rw [← lead, origin]; simp)
  obtain ⟨u, hu, held⟩ := (creating.comps d hd).2 (by rw [originD, ← lead, origin])
  obtain rfl : u = f.tag := Option.some.inj ((held.symm.trans tagD).trans tag)
  rw [State.appeared_mem, eq]
  exact List.mem_append_right _ (List.mem_map_of_mem hu)

/-- R22: the counter stands after the last tag that has appeared. -/
theorem State.serial_after (s : State) :
    s.tagComponents.serial =
      match (s.runUpdate.requests.filter fun r => decide (r.2 = .appeared)).getLast? with
      | none => s.tracker.serial
      | some r => if r.1.serial.val = 4095 then 1 else r.1.serial + 1 := by
  obtain ⟨created, eq, creating⟩ := s.tagComponents_requests
  have appeared : (s.runUpdate.requests.filter fun r => decide (r.2 = .appeared)) =
      created.map fun tag => (tag, NoticeKind.appeared) := by
    have none {l : List Request} (h : ∀ r ∈ l, r.2 ≠ .appeared) : (l.filter fun r => decide (r.2 = .appeared)) = [] :=
      List.filter_eq_nil_iff.2 fun r hr => by simpa using h r hr
    have all : ((created.map fun tag => (tag, NoticeKind.appeared)).filter fun r => decide (r.2 = .appeared)) =
        created.map fun tag => (tag, NoticeKind.appeared) := List.filter_eq_self.2 fun r hr => by
      obtain ⟨_, -, rfl⟩ := List.mem_map.1 hr
      rfl
    rw [State.runUpdate_requests, eq]
    simp only [List.filter_append]
    rw [none fun r hr => by simp [(s.resumedTagging_resuming.requests r hr).1], all,
      none fun r hr => by rcases kind_of_entered hr with h | h <;> simp [h],
      none fun r hr => by simp [kind_of_same hr],
      none fun r hr => by rcases kind_of_late hr with h | h <;> simp [h],
      none fun r hr => by simp [kind_of_gone hr], none fun r hr => by simp [kind_of_contact hr]]
    simp
  rw [appeared, creating.serial, List.getLast?_map]
  cases created.getLast? <;> rfl

theorem State.requested (s : State) : s.Requested s.trackingUpdate s.runUpdate.requests where
  order := by
    obtain ⟨created, eq, -⟩ := s.tagComponents_requests
    refine ⟨s.resumedTagging.requests, created.map fun tag => (tag, .appeared), s.enteredRequests,
      s.sameRequests ++ s.lateRequests ++ s.goneRequests, s.contactRequests, ?_,
      fun r hr => (s.resumedTagging_resuming.requests r hr).1, ?_, fun r => kind_of_entered, ?_, fun r => kind_of_contact⟩
    · rw [State.runUpdate_requests, eq]
      simp
    · intro r hr
      obtain ⟨_, -, rfl⟩ := List.mem_map.1 hr
      rfl
    · intro r hr
      simp only [List.mem_append, or_assoc] at hr
      rcases hr with hr | hr | hr
      · exact .inl (kind_of_same hr)
      · exact .inr ((kind_of_late hr).imp id .inl)
      · exact .inr (.inr (.inr (kind_of_gone hr)))
  appeared_due := State.forall_updated.2 fun f hf origin => by
    rw [State.finishPan_tag]
    exact State.appeared_request hf (by simpa using origin)
  appeared_only := fun pans lifted tag h => by
    obtain ⟨created, eq, creating⟩ := s.tagComponents_requests
    rw [State.appeared_mem, eq, List.mem_append, List.mem_map] at h
    rcases h with h | ⟨u, hu, same⟩
    · exact absurd (s.resumedTagging_resuming.requests _ h).1 (by simp)
    · obtain rfl : u = tag := congrArg Prod.fst same
      obtain ⟨creator, fresh⟩ := creating.fresh u hu
      exact ⟨creator, fresh pans lifted⟩
  serial := by
    rw [State.trackingUpdate_tracker]
    exact s.serial_after
  returned_due := fun apart l hl confirmed home held => by
    rcases State.resumed_request apart hl confirmed home with stays | due
    · exact State.returned_mem.2 (.inr (State.mem_sameRequests.2 ⟨l, stays, State.holds_iff.1 held, confirmed, home, rfl⟩))
    · exact due
  returned_only := fun tag h => by
    rcases State.returned_mem.1 h with h | h
    · exact (s.resumedTagging_resuming.requests _ h).2
    · obtain ⟨e, he, -, confirmed, home, same⟩ := State.mem_sameRequests.1 h
      exact ⟨e, State.tagComponents_lifted_mem he, (congrArg Prod.fst same).symm, confirmed, home⟩
  left_due := fun apart l hl confirmed home out => by
    rcases State.resumed_request apart hl confirmed home with stays | due
    · by_cases released : s.Released l.tag
      · have kept : s.upkept l ∈ s.keptEntries := State.mem_keptEntries.2 ⟨l, .inl stays, released, rfl⟩
        rcases evictLifted_cases s.keptEntries.length kept with inside | gone
        · rw [State.trackingUpdate_tracker] at out
          exact absurd rfl (out (s.upkept l) (s.runUpdate_lifted ▸ inside))
        · exact .inr (State.gone_mem.2 (gone (by simp [State.upkept, confirmed]) home))
      · exact .inl (State.returned_mem.2 (.inr (State.mem_sameRequests.2
          ⟨l, stays, not_released.1 released, confirmed, home, rfl⟩)))
    · exact .inl due
  gone_only := fun tag h => by
    obtain ⟨four, e, he, confirmed, home, same⟩ := State.mem_goneRequests (State.gone_mem.1 h)
    obtain rfl : tag = e.tag := congrArg Prod.fst same
    rw [State.trackingUpdate_tracker]
    exact ⟨four, State.kept_source he confirmed home⟩
  confirmed_due := fun e he confirmed home before => by
    rw [State.trackingUpdate_tracker] at he
    exact State.cause_request he confirmed home before
  confirmed_only := fun tag kind h hk => by
    rw [State.released_iff]
    simp only [State.covers_iff]
    rcases (State.confirmed_mem hk).1 h with h | h
    · obtain ⟨e, he, confirmed, home, same⟩ := State.mem_enteredRequests.1 h
      obtain ⟨rfl, rfl⟩ := Prod.mk.inj same
      obtain ⟨g, hg, tag, program, was, unreported, released, cause⟩ := State.entering_source he
      exact ⟨unreported confirmed, released, .inr ⟨g, hg, tag, program, was.trans home, cause⟩⟩
    · obtain ⟨e, he, released, unconfirmed, unreported, home, same⟩ := State.mem_lateRequests.1 h
      obtain ⟨rfl, rfl⟩ := Prod.mk.inj same
      exact ⟨unreported, released, .inl ⟨e, State.tagComponents_lifted_mem he, rfl, unconfirmed, home, rfl⟩⟩
  contact := fun apart tag => by
    rw [State.contact_mem, State.mem_contactRequests, State.exists_updated]
    refine exists_congr fun f => and_congr_right fun hf => ?_
    rw [State.finishPan_tag, State.finishPan_origin]
    constructor
    · rintro ⟨home, idle, contact, same⟩
      obtain rfl : tag = f.tag := congrArg Prod.fst same
      refine ⟨rfl, home, contact, fun before => ?_⟩
      simp [(State.panContact_before apart hf).2 before] at idle
    · rintro ⟨rfl, home, contact, before⟩
      exact ⟨home, Bool.eq_false_iff.2 fun h => before ((State.panContact_before apart hf).1 h), contact, rfl⟩

end Sys2Proof.Machine

/-! PROOFS. The tracking update as a whole (R25 to R40, R155): `State.TrackedFrom`. -/

namespace Sys2Proof.Machine

open Sys2Proof

variable {s : State}

/-! ### The records and the link after the update -/

/-- R25, R101: the update changes the heating flags of the coil records and nothing else of them. -/
theorem State.trackingUpdate_coil (s : State) (i : CoilIx) :
    s.trackingUpdate.coils.get i = { s.coils.get i with heating := (s.trackingUpdate.coils.get i).heating } := by
  unfold State.trackingUpdate
  dsimp only
  rw [State.sendUpdate_frame, State.withdrawUntargeted_coils]
  simp

theorem State.trackingUpdate_coverage (s : State) (i : CoilIx) :
    (s.trackingUpdate.coils.get i).coverage = (s.coils.get i).coverage := by rw [s.trackingUpdate_coil]

theorem State.trackingUpdate_covered (s : State) (i : CoilIx) :
    (s.trackingUpdate.coils.get i).coveredClass = s.coveredCoil i :=
  (congrArg Coil.coveredClass (s.trackingUpdate_coil i)).trans (by simp only [Coil.coveredClass, State.coveredCoil])

theorem State.trackingUpdate_alloc (s : State) : s.trackingUpdate.alloc.joined = (s.alloc.joined || s.runUpdate.joined) :=
  congrArg (fun u : State => u.alloc.joined) s.trackingUpdate_frame

/-- R40, R44: what step 12 hands to the queue. -/
theorem State.trackingUpdate_link (awake : s.sup.state ≠ .silent) :
    s.trackingUpdate.link = s.updateHanded s.trackingUpdate s.runUpdate.requests s.link := by
  have closed : s.runUpdate.closed =
      (s.tracker.pans.filter fun g => decide (∀ f ∈ s.trackingUpdate.tracker.pans, f.tag ≠ g.tag)).map fun g => g.tag := by
    have form : s.runUpdate.closed = (releasedOf s.tracker.pans s.joinedPans).map fun g => g.tag := rfl
    rw [form]
    refine congrArg _ (List.filter_congr fun g _ => ?_)
    rw [Bool.eq_iff_iff, decide_eq_true_eq, State.released_iff]
    simp [State.Released]
  have pans : s.trackingUpdate.tracker.pans = s.runUpdate.pans := by rw [State.trackingUpdate_tracker, State.runUpdate_pans]
  unfold State.updateHanded
  dsimp only
  rw [← List.foldl_map (f := fun g : Fragment => g.tag)
    (g := fun (l : Link) t => l.hand (.fragment t) s.setup.fragmentLevel (encodeClosed t)), ← closed, pans]
  unfold State.trackingUpdate
  dsimp only
  rw [State.withdrawUntargeted_link, State.sendUpdate_eq _ _ (by exact awake)]
  rfl

/-! ### The update -/

theorem State.trackingUpdate_trackedFrom (s : State) : s.TrackedFrom s.trackingUpdate s.link where
  covered := fun i => by
    rw [State.exists_updated, s.trackingUpdate_covered, s.joinedPans_covered]
    simp only [State.finishPan_coils]
  disjoint := State.forall_updated.2 fun f hf => State.forall_updated.2 fun g hg i hif hig => by
    rw [State.finishPan_coils] at hif hig
    rw [State.joinedPans_disjoint hf hg hif hig]
  whole := State.forall_updated.2 fun f hf i hi j adjacent hj => by
    rw [State.finishPan_coils] at hi ⊢
    exact State.joinedPans_whole hf hi adjacent (s.trackingUpdate_covered j ▸ hj)
  rising := State.forall_updated.2 fun f hf => by
    rw [State.finishPan_coils]
    exact ⟨State.joinedPans_ne_nil hf, (s.joinedPans_figured f hf).rising⟩
  area := State.forall_updated.2 fun f hf => by
    simp only [State.trackingUpdate_coverage, State.finishPan_coils, State.finishPan_area]
    exact (s.joinedPans_figured f hf).area
  edge := State.forall_updated.2 fun f hf i => by
    simp only [State.trackingUpdate_coverage, State.finishPan_coils, State.finishPan_edge]
    exact (s.joinedPans_figured f hf).edge i
  tags := by
    rw [State.trackingUpdate_tracker, ← State.runUpdate_pans, State.runUpdate_pan_tags]
    exact s.joinedPans_tags
  tracked := State.forall_updated.2 fun f hf origin => by
    rw [State.finishPan_origin] at origin
    simp only [State.finishPan_tag, State.finishPan_coils]
    have source := State.joinedPans_from hf
    rw [origin] at source
    obtain ⟨g, hg, tag, shares, own, -⟩ := source
    exact ⟨g, hg, tag, shares, fun program => own ▸ State.finishPan_program (own ▸ program)⟩
  history := fun apart g hg program seen alone => by
    simp only [State.trackingUpdate_covered] at seen alone
    obtain ⟨f, hf, tag, origin, own⟩ := State.joinedPans_history apart hg program seen alone
    refine State.exists_updated.2 ⟨f, hf, ?_⟩
    rw [State.finishPan_tag, State.finishPan_origin, State.finishPan_program (own ▸ program)]
    exact ⟨tag, origin, own⟩
  carried := State.forall_updated.2 fun f hf origin => by
    rw [State.finishPan_origin] at origin
    simp only [State.finishPan_tag, State.finishPan_coils]
    have source := State.joinedPans_from hf
    rw [origin] at source
    exact source.2.2
  resumed := State.forall_updated.2 fun f hf origin => by
    rw [State.finishPan_origin] at origin
    simp only [State.finishPan_tag, State.finishPan_coils]
    have source := State.joinedPans_from hf
    rw [origin] at source
    obtain ⟨-, l, hl, tag, shares, own⟩ := source
    exact ⟨l, hl, tag, shares, fun program => own ▸ State.finishPan_program (own ▸ program)⟩
  created := State.forall_updated.2 fun f hf origin => by
    rw [State.finishPan_origin] at origin
    simp only [State.finishPan_tag, State.finishPan_coils]
    have source := State.joinedPans_from hf
    rw [origin] at source
    exact source.2.2
  home := State.forall_updated.2 fun f _ => by
    rw [State.finishPan_home, State.finishPan_tag, State.finishPan_area]
    exact isHome_iff
  contact := State.forall_updated.2 fun f hf contact => by
    rw [State.finishPan_contact] at contact
    simp only [State.finishPan_tag, State.finishPan_coils, Touches, State.trackingUpdate_coverage]
    exact State.joinedPans_contact hf contact
  pan_contact := State.forall_updated.2 fun f _ => by
    rw [State.finishPan_panContact, State.finishPan_contact, State.finishPan_tag, Bool.or_eq_true, List.any_eq_true]
    simp only [mem_reportsOf, and_assoc]
  joined := State.forall_updated.2 fun f _ e cached => State.finishPan_joined (by simpa using cached)
  share := State.forall_updated.2 fun f hf => by
    rw [State.finishPan_share, State.finishPan_tag]
    exact (s.joinedPans_figured f hf).share
  computes := by
    rw [State.trackingUpdate_alloc, Bool.or_eq_true]
    refine ⟨.inl, fun pans lifted => ?_⟩
    rw [State.runUpdate_joined pans lifted, State.exists_updated]
  lifted_size := by
    rw [State.trackingUpdate_tracker]
    exact s.runUpdate_lifted_length
  apart := fun e he => by
    rw [State.trackingUpdate_tracker, s.runUpdate_lifted] at he
    have free := s.keptEntries_apart e ((evictLifted_sublist _ _).subset he)
    exact State.forall_updated.2 fun f hf same => free (List.mem_map.2 ⟨f, hf, by simpa using same.symm⟩)
  entries := fun e he => by
    rw [State.trackingUpdate_tracker] at he
    simp only [State.covers_iff]
    rcases State.runUpdate_lifted_source he with old | ⟨g, hg, program, rfl⟩
    · exact .inl old
    · exact .inr ⟨g, hg, program, s.liftedEntryOf_eq g⟩
  released := fun apart few g hg program out unheard unlifted => by
    rw [State.trackingUpdate_tracker]
    exact State.released_entry apart few hg program (State.released_iff.1 out) unheard unlifted
  sent := fun awake => ⟨s.runUpdate.requests, s.requested, State.trackingUpdate_link awake⟩

/-! ### What the update does not read -/

section Frame

variable {t : State} {coils : Eight Coil} {probe : Probe} {drive : Drive} {sense : Sense} {queue : List QueueEntry} {dropped : Nat}

/-- The requests speak of the tracker, the peer table and the position alone. -/
theorem State.Requested.of_frame {requests : List (Tag × NoticeKind)}
    (h : ({ s with
        coils := coils, probe := probe, drive := drive, sense := sense,
        link := { s.link with queue := queue, dropped := dropped } } : State).Requested t requests) : s.Requested t requests :=
  { h with }

/-- The update reads neither the drive nor the queue, and of the records what it is given. -/
theorem State.TrackedFrom.of_frame {before : Link}
    (h : ({ s with
        coils := coils, probe := probe, drive := drive, sense := sense,
        link := { s.link with queue := queue, dropped := dropped } } : State).TrackedFrom t before) : s.TrackedFrom t before :=
  { h with sent := fun awake => (h.sent awake).imp fun _ sent => ⟨sent.1.of_frame, sent.2⟩ }

end Frame

end Sys2Proof.Machine

/-! PROOFS. The results of a pair (R5, R14, R15, R98, R101): the records, the drive and the link after one result and after two. -/

namespace Sys2Proof.Machine

open Sys2Proof

variable {s : State} {i j : CoilIx} {c : Capture}

/-! ### The heating flag is no part of what a probe judges -/

theorem undrivable_withHeating (r : Coil) (h : Bool) : undrivable (coilState { r with heating := h }) = undrivable (coilState r) := by
  unfold coilState
  cases r.fitted with
  | false => rfl
  | true =>
    cases r.presence with
    | nonferrous | absent => rfl
    | pan => cases h <;> cases r.heating <;> simp only [Coil.faultActive] <;> split_ifs <;> rfl

theorem judgesMaterial_withHeating (r : Coil) (h : Bool) : judgesMaterial { r with heating := h } = judgesMaterial r := by
  unfold judgesMaterial coilState
  cases r.fitted with
  | false => rfl
  | true =>
    cases r.presence with
    | nonferrous | absent => rfl
    | pan => cases h <;> cases r.heating <;> simp only [Coil.faultActive] <;> split_ifs <;> rfl

theorem takeResult_withHeating (su : CoilSetup) (k : Nat) (period : Option Nat) (r : Coil) (h : Bool) :
    takeResult su k period { r with heating := h } = { takeResult su k period r with heating := h } := by
  unfold takeResult
  rw [judgesMaterial_withHeating]

/-! ### One result -/

/-- The record of a coil after a result of its probe. -/
def State.resultOf (s : State) (i : CoilIx) (c : Capture) : Coil :=
  if (s.coils.get i).fitted = true then takeResult (s.setup.coils.get i) c.ringCount c.ringPeriod (s.coils.get i) else s.coils.get i

theorem State.takeProbe_unfitted (h : (s.coils.get i).fitted ≠ true) : s.takeProbe i c = s := if_neg h

theorem State.raiseFrequency_value (i : CoilIx) (s : State) :
    (s.raiseFrequency i).drive.frequency =
      max s.drive.frequency (if (s.coils.get i).heating = true then (s.coils.get i).floor else 0) := by
  unfold State.raiseFrequency
  cases (s.coils.get i).heating with
  | false => simp
  | true =>
    by_cases low : s.drive.frequency < (s.coils.get i).floor
    · simp [low, low.le]
    · simp [low, Nat.le_of_not_lt low]

/-- R14: a result reaches its own record, and of the others at most the heating flag changes. -/
theorem State.takeProbe_coil (s : State) (i : CoilIx) (c : Capture) (j : CoilIx) :
    (s.takeProbe i c).coils.get j =
      { (if j = i then s.resultOf i c else s.coils.get j) with heating := ((s.takeProbe i c).coils.get j).heating } := by
  by_cases fitted : (s.coils.get i).fitted = true
  · rw [s.takeProbe_eq i c fitted]
    unfold State.withdrawByState
    simp only [State.cutSet_coil]
    rw [State.raiseFrequency_frame]
    dsimp only
    rw [Eight.get_update]
    split_ifs with same
    · subst same
      simp only [State.resultOf, if_pos fitted]
    · rfl
  · rw [State.takeProbe_unfitted fitted]
    split_ifs with same
    · subst same
      simp only [State.resultOf, if_neg fitted]
    · rfl

/-- R94: a coil in a state that may not be driven has density 0. -/
def State.Quiet (s : State) : Prop := ∀ i, undrivable (coilState (s.coils.get i)) = true → s.drive.density.get i = 0

theorem State.withdrawByState_density (s : State) (j : CoilIx) :
    s.withdrawByState.drive.density.get j =
      if undrivable (coilState (s.withdrawByState.coils.get j)) = true then 0 else s.drive.density.get j := by
  unfold State.withdrawByState
  rw [State.cutSet_coil, undrivable_withHeating, State.cutSet_density]
  by_cases zero : s.drive.density.get j = 0
  · simp [zero]
  · simp [Nat.pos_of_ne_zero zero]

/-- R101: the coils a result withdraws are those whose state it makes undrivable. -/
theorem State.takeProbe_density (quiet : s.Quiet) (i : CoilIx) (c : Capture) (j : CoilIx) :
    (s.takeProbe i c).drive.density.get j =
      if undrivable (coilState ((s.takeProbe i c).coils.get j)) = true then 0 else s.drive.density.get j := by
  by_cases fitted : (s.coils.get i).fitted = true
  · rw [s.takeProbe_eq i c fitted]
    dsimp only
    rw [State.withdrawByState_density, State.raiseFrequency_frame]
  · rw [State.takeProbe_unfitted fitted]
    split_ifs with out
    · exact quiet j out
    · rfl

theorem State.takeProbe_quiet (quiet : s.Quiet) (i : CoilIx) (c : Capture) : (s.takeProbe i c).Quiet := fun j out => by
  rw [State.takeProbe_density quiet, if_pos out]

/-- R101: the heating flag of another coil stays. -/
theorem State.takeProbe_heating (quiet : s.Quiet) (c : Capture) (other : j ≠ i) :
    ((s.takeProbe i c).coils.get j).heating = (s.coils.get j).heating := by
  by_cases fitted : (s.coils.get i).fitted = true
  · rw [s.takeProbe_eq i c fitted]
    dsimp only
    unfold State.withdrawByState
    rw [State.cutSet_coil, State.raiseFrequency_frame]
    dsimp only
    rw [Eight.get_update_other _ _ other]
    by_cases out : undrivable (coilState (s.coils.get j)) = true
    · simp [quiet j out]
    · simp [out]
  · rw [State.takeProbe_unfitted fitted]

/-- R98: the frequency rises to the new floor of a heating coil. -/
theorem State.takeProbe_frequency (s : State) (i : CoilIx) (c : Capture) :
    (s.takeProbe i c).drive.frequency =
      max s.drive.frequency
        (if (s.coils.get i).fitted = true ∧ (s.coils.get i).heating = true then ((s.takeProbe i c).coils.get i).floor else 0) := by
  by_cases fitted : (s.coils.get i).fitted = true
  · have floor : ((s.takeProbe i c).coils.get i).floor = (s.resultOf i c).floor := by
      rw [s.takeProbe_coil i c i, if_pos rfl]
    have heating : (takeResult (s.setup.coils.get i) c.ringCount c.ringPeriod (s.coils.get i)).heating = (s.coils.get i).heating :=
      rfl
    rw [floor, s.takeProbe_eq i c fitted]
    unfold State.withdrawByState State.resultOf
    rw [if_pos fitted]
    dsimp only
    rw [State.cutSet_frequency, State.raiseFrequency_value]
    simp only [Eight.get_update_same, heating, fitted, true_and]
  · rw [State.takeProbe_unfitted fitted, if_neg fun h => fitted h.1, Nat.max_zero]

/-! ### UNSUITABLE (R15) -/

/-- R15: what is handed to the queue where a result makes a presence NONFERROUS. -/
def State.askedUnsuitable (s : State) (i : CoilIx) (after : Presence) (l : Link) : Link :=
  if (s.coils.get i).presence ≠ .nonferrous ∧ after = .nonferrous ∧ s.sup.state ≠ .silent then
    l.hand (.notice (s.tagOfCoil i) .unsuitable) s.setup.noticeLevel (encodeNotice (s.tagOfCoil i) .unsuitable i.val)
  else l

theorem State.takeProbe_link (s : State) (i : CoilIx) (c : Capture) :
    (s.takeProbe i c).link = s.askedUnsuitable i ((s.takeProbe i c).coils.get i).presence s.link := by
  by_cases fitted : (s.coils.get i).fitted = true
  · have presence : ((s.takeProbe i c).coils.get i).presence =
        (takeResult (s.setup.coils.get i) c.ringCount c.ringPeriod (s.coils.get i)).presence := by
      rw [s.takeProbe_coil i c i, if_pos rfl, State.resultOf, if_pos fitted]
    rw [presence, s.takeProbe_eq i c fitted]
    dsimp only
    unfold State.unsuitableNotice State.askedUnsuitable State.notice State.hand
    simp only [Eight.get_update_same, Bool.and_eq_true, decide_eq_true_eq]
    by_cases silent : s.sup.state = .silent
    · simp [silent]
    · simp only [silent, if_false, ne_eq, not_false_eq_true, and_true]
      split_ifs <;> rfl
  · rw [State.takeProbe_unfitted fitted, State.askedUnsuitable, if_neg fun h => h.1 h.2.1]

theorem State.askedUnsuitable_frame (s : State) (i : CoilIx) (after : Presence) (l : Link) :
    s.askedUnsuitable i after l =
      { l with queue := (s.askedUnsuitable i after l).queue, dropped := (s.askedUnsuitable i after l).dropped } := by
  unfold State.askedUnsuitable
  split
  · exact Link.hand_frame _ _ _ _
  · rfl

/-! ### Two results -/

section Pair

variable {a b : CoilIx} {x y : Capture}

/-- R5: the results of two coils, each on its own record. -/
theorem State.takeTwo_coil (s : State) (apart : a ≠ b) (x y : Capture) (j : CoilIx) :
    ((s.takeProbe a x).takeProbe b y).coils.get j =
      { (if j = a then s.resultOf a x else if j = b then s.resultOf b y else s.coils.get j) with
        heating := (((s.takeProbe a x).takeProbe b y).coils.get j).heating } := by
  have setup : (s.takeProbe a x).setup = s.setup := by rw [State.takeProbe_frame]
  have second : (s.takeProbe a x).resultOf b y = { s.resultOf b y with heating := ((s.takeProbe a x).resultOf b y).heating } := by
    unfold State.resultOf
    rw [setup, s.takeProbe_coil a x b, if_neg apart.symm, takeResult_withHeating]
    dsimp only
    split_ifs <;> rfl
  rw [(s.takeProbe a x).takeProbe_coil b y j]
  by_cases hb : j = b
  · subst hb
    rw [if_pos rfl, if_neg apart.symm, if_pos rfl, second]
  · rw [if_neg hb, if_neg hb, s.takeProbe_coil a x j]

theorem State.takeTwo_density (quiet : s.Quiet) (apart : a ≠ b) (x y : Capture) (j : CoilIx) :
    ((s.takeProbe a x).takeProbe b y).drive.density.get j =
      if undrivable (coilState (((s.takeProbe a x).takeProbe b y).coils.get j)) = true then 0 else s.drive.density.get j := by
  rw [State.takeProbe_density (State.takeProbe_quiet quiet a x), State.takeProbe_density quiet]
  split_ifs with out first
  · rfl
  · by_cases hb : j = b
    · subst hb
      rw [s.takeProbe_coil a x j, if_neg apart.symm, undrivable_withHeating] at first
      exact (quiet j first).symm
    · rw [(s.takeProbe a x).takeProbe_coil b y j, if_neg hb, undrivable_withHeating] at out
      exact absurd first out
  · rfl

theorem State.takeTwo_frequency (quiet : s.Quiet) (apart : a ≠ b) (x y : Capture) :
    ((s.takeProbe a x).takeProbe b y).drive.frequency =
      max s.drive.frequency
        (max
          (if (s.coils.get a).fitted = true ∧ (s.coils.get a).heating = true then
            (((s.takeProbe a x).takeProbe b y).coils.get a).floor else 0)
          (if (s.coils.get b).fitted = true ∧ (s.coils.get b).heating = true then
            (((s.takeProbe a x).takeProbe b y).coils.get b).floor else 0)) := by
  have fitted : ((s.takeProbe a x).coils.get b).fitted = (s.coils.get b).fitted := by
    rw [s.takeProbe_coil a x b, if_neg apart.symm]
  have floor : (((s.takeProbe a x).takeProbe b y).coils.get a).floor = ((s.takeProbe a x).coils.get a).floor := by
    rw [(s.takeProbe a x).takeProbe_coil b y a, if_neg apart]
  rw [State.takeProbe_frequency, State.takeProbe_frequency, State.takeProbe_heating quiet x apart.symm, fitted, floor, Nat.max_assoc]

theorem State.takeTwo_link (s : State) (apart : a ≠ b) (x y : Capture) :
    ((s.takeProbe a x).takeProbe b y).link =
      s.askedUnsuitable b (((s.takeProbe a x).takeProbe b y).coils.get b).presence
        (s.askedUnsuitable a (((s.takeProbe a x).takeProbe b y).coils.get a).presence s.link) := by
  have presence : (((s.takeProbe a x).takeProbe b y).coils.get a).presence = ((s.takeProbe a x).coils.get a).presence := by
    rw [(s.takeProbe a x).takeProbe_coil b y a, if_neg apart]
  have before : ((s.takeProbe a x).coils.get b).presence = (s.coils.get b).presence := by
    rw [s.takeProbe_coil a x b, if_neg apart.symm]
  have asks (after : Presence) (l : Link) : (s.takeProbe a x).askedUnsuitable b after l = s.askedUnsuitable b after l := by
    have frame := s.takeProbe_frame a x
    unfold State.askedUnsuitable
    rw [before, frame]
    rfl
  rw [State.takeProbe_link, asks, s.takeProbe_link a x, presence]

/-- R5, R14, R15, R98, R101: two results change the coil records, the drive, the accumulators and what the queue takes. -/
theorem State.takeTwo_frame (s : State) (a b : CoilIx) (x y : Capture) :
    (s.takeProbe a x).takeProbe b y =
      { s with
        coils := ((s.takeProbe a x).takeProbe b y).coils
        drive := ((s.takeProbe a x).takeProbe b y).drive
        sense := ((s.takeProbe a x).takeProbe b y).sense
        link := ((s.takeProbe a x).takeProbe b y).link } := by
  have first := s.takeProbe_frame a x
  have second := (s.takeProbe a x).takeProbe_frame b y
  generalize (s.takeProbe a x).takeProbe b y = v at second ⊢
  rw [second, first]

end Pair

end Sys2Proof.Machine

/-! PROOFS. The completion of a pair (R1, R5) and O20. -/

namespace Sys2Proof.Machine

open Sys2Proof

variable {s : State} {p : Fin 4}

/-! ### The results of a pair -/

theorem firstCoil_ne_secondCoil (p : Fin 4) : firstCoil p ≠ secondCoil p := by
  revert p
  decide

/-- R5: the record of a coil of the pair takes the result of its own detector. -/
theorem State.takePair_own (s : State) (p : Fin 4) (e : Fin 2) :
    (s.takePair p).coils.get (detectorCoil p e) =
      { s.resultOf (detectorCoil p e) (s.probe.capture e) with
        heating := ((s.takePair p).coils.get (detectorCoil p e)).heating } := by
  have apart := firstCoil_ne_secondCoil p
  fin_cases e
  · have h := s.takeTwo_coil apart s.probe.unit0 s.probe.unit1 (firstCoil p)
    rw [if_pos rfl] at h
    exact h
  · have h := s.takeTwo_coil apart s.probe.unit0 s.probe.unit1 (secondCoil p)
    rw [if_neg apart.symm, if_pos rfl] at h
    exact h

/-- R5: every other record, and that of an unfitted coil, keeps all but its heating flag. -/
theorem State.takePair_other (s : State) {i : CoilIx} (h : (∀ e, i ≠ detectorCoil p e) ∨ (s.coils.get i).fitted = false) :
    (s.takePair p).coils.get i = { s.coils.get i with heating := ((s.takePair p).coils.get i).heating } := by
  have record : (if i = firstCoil p then s.resultOf (firstCoil p) s.probe.unit0
      else if i = secondCoil p then s.resultOf (secondCoil p) s.probe.unit1 else s.coils.get i) = s.coils.get i := by
    rcases h with other | unfitted
    · rw [if_neg (show i ≠ firstCoil p from other 0), if_neg (show i ≠ secondCoil p from other 1)]
    · split_ifs with first second
      · simp [← first, State.resultOf, unfitted]
      · simp [← second, State.resultOf, unfitted]
      · rfl
  have h := s.takeTwo_coil (firstCoil_ne_secondCoil p) s.probe.unit0 s.probe.unit1 i
  rw [record] at h
  exact h

theorem State.takePair_frame (s : State) (p : Fin 4) :
    s.takePair p =
      { s with
        coils := (s.takePair p).coils, drive := (s.takePair p).drive, sense := (s.takePair p).sense,
        link := { s.link with queue := (s.takePair p).link.queue, dropped := (s.takePair p).link.dropped } } := by
  have frame : s.takePair p = { s with
      coils := (s.takePair p).coils, drive := (s.takePair p).drive, sense := (s.takePair p).sense,
      link := (s.takePair p).link } := s.takeTwo_frame _ _ _ _
  have link : (s.takePair p).link =
      { s.link with queue := (s.takePair p).link.queue, dropped := (s.takePair p).link.dropped } := by
    have h : (s.takePair p).link = _ := s.takeTwo_link (firstCoil_ne_secondCoil p) _ _
    rw [State.askedUnsuitable_frame, State.askedUnsuitable_frame s (firstCoil p)] at h
    rw [h]
  generalize s.takePair p = v at frame link ⊢
  rw [← link]
  exact frame

/-! ### The pairs after it (R1, R5) -/

/-- R1: the pair has a fitted coil. -/
def State.PairFitted (s : State) (q : Fin 4) : Prop :=
  (s.coils.get (firstCoil q)).fitted = true ∨ (s.coils.get (secondCoil q)).fitted = true

theorem State.not_pairFitted {q : Fin 4} :
    ¬ s.PairFitted q ↔ (s.coils.get (firstCoil q)).fitted = false ∧ (s.coils.get (secondCoil q)).fitted = false := by
  simp [State.PairFitted]

theorem startCapture_ended (fitted : Bool) : (startCapture fitted).phase = .ended ↔ fitted = false := by
  cases fitted <;> simp [startCapture]

theorem State.startPair_pairEnded (s : State) (q : Fin 4) : (s.startPair q).probe.pairEnded = true ↔ ¬ s.PairFitted q := by
  rw [State.not_pairFitted]
  simp only [State.startPair, Probe.pairEnded, Bool.and_eq_true, decide_eq_true_eq, startCapture_ended]

/-- R5: the results of a pair without a fitted coil reach nothing. -/
theorem State.takePair_unfitted {q : Fin 4} (h : ¬ s.PairFitted q) : s.takePair q = s := by
  obtain ⟨first, second⟩ := State.not_pairFitted.1 h
  unfold State.takePair
  rw [State.takeProbe_unfitted (i := firstCoil q) (by simp [first]), State.takeProbe_unfitted (by simp [second])]

/-- R5: what follows the results of a pair: the next pair, or the end of the sweep. -/
def State.passOn (n : Nat) (p : Fin 4) (s : State) : State :=
  if p = 3 then s.completeSweep else State.advanceSweep n (s.startPair (p + 1))

theorem State.advanceSweep_ended {n : Nat} (sweep : s.probe.sweep = some p) (ended : s.probe.pairEnded = true) :
    State.advanceSweep (n + 1) s = State.passOn n p (s.takePair p) := by
  unfold State.advanceSweep
  rw [sweep]
  simp only [ended, if_true]
  rfl

/-- R1, R5: pairs without a fitted coil are passed over, to the next fitted pair or to the end of the sweep. -/
theorem State.passOn_cases (n : Nat) (p : Fin 4) (s : State) (enough : 3 ≤ p.val + n) :
    (∃ q, p < q ∧ s.PairFitted q ∧ (∀ r, p < r → r < q → ¬ s.PairFitted r) ∧ State.passOn n p s = s.startPair q) ∨
      (∀ q, p < q → ¬ s.PairFitted q) ∧ ∃ x, State.passOn n p s = { s with probe := x }.completeSweep := by
  induction n generalizing p s with
  | zero =>
    obtain rfl : p = 3 := Fin.ext (by have := p.isLt; omega)
    exact .inr ⟨fun q hq => absurd hq (by omega), s.probe, if_pos rfl⟩
  | succ n ih =>
    by_cases last : p = 3
    · subst last
      exact .inr ⟨fun q hq => absurd hq (by omega), s.probe, if_pos rfl⟩
    · have next : (p + 1).val = p.val + 1 := by
        have := p.isLt
        have : p.val ≠ 3 := fun h => last (Fin.ext h)
        rw [Fin.val_add_one_of_lt' (by omega)]
      have above (q : Fin 4) (hq : p < q) : q = p + 1 ∨ p + 1 < q := by
        rw [Fin.lt_def] at hq ⊢
        rw [Fin.ext_iff, next]
        omega
      have step : State.passOn (n + 1) p s = State.advanceSweep (n + 1) (s.startPair (p + 1)) := if_neg last
      rw [step]
      by_cases fitted : s.PairFitted (p + 1)
      · have running : (s.startPair (p + 1)).probe.pairEnded = false := by
          rw [Bool.eq_false_iff, Ne, State.startPair_pairEnded]
          exact fun h => h fitted
        refine .inl ⟨p + 1, by rw [Fin.lt_def, next]; omega, fitted, fun r hpr hrq => ?_, State.advanceSweep_running _ running⟩
        rcases above r hpr with rfl | h
        · exact absurd hrq (lt_irrefl _)
        · exact absurd hrq (lt_asymm h)
      · have passed : State.advanceSweep (n + 1) (s.startPair (p + 1)) = State.passOn n (p + 1) (s.startPair (p + 1)) := by
          rw [State.advanceSweep_ended (p := p + 1) rfl ((s.startPair_pairEnded _).2 fitted)]
          exact congrArg _ (State.takePair_unfitted fitted)
        rw [passed]
        rcases ih (p + 1) (s.startPair (p + 1)) (by omega) with ⟨q, hq, held, between, eq⟩ | ⟨none, x, eq⟩
        · refine .inl ⟨q, lt_trans (by rw [Fin.lt_def, next]; omega) hq, held, fun r hpr hrq => ?_, eq⟩
          rcases above r hpr with rfl | h
          · exact fitted
          · exact between r h hrq
        · refine .inr ⟨fun q hq => ?_, x, eq⟩
          rcases above q hq with rfl | h
          · exact fitted
          · exact none q h

/-! ### What the end of a sweep leaves of the drive -/

theorem State.sendUpdate_drive (closed : List Tag) (requests : List Request) (s : State) :
    (s.sendUpdate closed requests).drive = s.drive := by rw [State.sendUpdate_frame]

theorem State.trackingUpdate_density (s : State) (i : CoilIx) :
    s.trackingUpdate.drive.density.get i = if s.trackingUpdate.targeted i = true then s.drive.density.get i else 0 := by
  unfold State.trackingUpdate
  dsimp only
  rw [State.withdrawUntargeted_density, State.sendUpdate_drive]

theorem State.trackingUpdate_frequency (s : State) : s.trackingUpdate.drive.frequency = s.drive.frequency := by
  unfold State.trackingUpdate State.withdrawUntargeted
  dsimp only
  rw [State.cutSet_frequency, State.sendUpdate_drive]

/-- R5, R25, R101: what a pair's completion leaves of the state `v` its results made: the records but for the heating flags, the
frequency, and the densities but for those a tracking update withdraws. -/
structure State.Completed (v t : State) : Prop where
  coils : ∀ i, t.coils.get i = { v.coils.get i with heating := (t.coils.get i).heating }
  frequency : t.drive.frequency = v.drive.frequency
  density : ∀ i,
    t.drive.density.get i = if t.probe.sweep = none ∧ t.targeted i = false then 0 else v.drive.density.get i

theorem State.startPair_completed (v : State) (q : Fin 4) : v.Completed (v.startPair q) where
  coils := fun _ => rfl
  frequency := rfl
  density := fun i => by
    rw [if_neg fun h => absurd h.1 (by simp [State.startPair])]
    rfl

theorem State.completeSweep_sweep (v : State) : v.completeSweep.probe.sweep = none :=
  congrArg (fun u : State => u.probe.sweep) v.abortSweep.trackingUpdate_frame

theorem State.completeSweep_completed (v : State) (x : Probe) : v.Completed { v with probe := x }.completeSweep where
  coils := fun i => State.trackingUpdate_coil _ i
  frequency := State.trackingUpdate_frequency _
  density := fun i => by
    have idle : ({ v with probe := x } : State).completeSweep.probe.sweep = none := State.completeSweep_sweep _
    have density := State.trackingUpdate_density ({ v with probe := x } : State).abortSweep i
    rw [idle]
    simp only [true_and, ← Bool.not_eq_true]
    rw [ite_not]
    exact density

end Sys2Proof.Machine

/-! PROOFS. O20: the commands that end a probe, the completion of a pair, and the steps of the tracking update. -/

namespace Sys2Proof.Machine

open Sys2Proof

/-! ### The commands -/

/-- R3, R4: the unit whose probe a command ends, as the command leaves it. -/
def State.endedBy (s : State) (d : Fin 2) (c : Instr) (ended : Capture) : Prop :=
  (c = .ringDecayed d ∨ c = .timeLimit d) ∧ ended = s.probe.capture d ∨
    ∃ time, c = .ringMark d time ∧ (s.probe.capture d).pulseEnd + 100 ≤ time ∧ (s.probe.capture d).lastMark + 100 ≤ time ∧
      (s.probe.capture d).marks = 62 ∧ ended = { s.probe.capture d with lastMark := time, marks := 63, cycleEnd := time }

/-- The state in which the probe on detector `d` has ended with its unit at `ended`. -/
def State.withEnded (s : State) (d : Fin 2) (ended : Capture) : State :=
  { s with probe := s.probe.setCapture d { ended with phase := .ended } }

variable {s : State} {d : Fin 2} {p : Fin 4} {ended : Capture}

/-- R4, R5: each command that ends a ringing coil's probe ends its unit and lets the sweep go on. -/
theorem exec_ends {c : Instr} (running : s.sup.held = false) (rings : (s.probe.capture d).phase = .ringing)
    (h : s.endedBy d c ended) : exec c s = .next (State.advanceSweep 4 (s.withEnded d ended)) := by
  rcases h with ⟨rfl | rfl, rfl⟩ | ⟨time, rfl, pulse, last, marks, rfl⟩
  · have finished : s.endProbe d = State.advanceSweep 4 (s.withEnded d (s.probe.capture d)) := by
      simp [State.endProbe, Capture.finish, rings, State.withEnded]
    exact finished ▸ live_running _ running
  · have finished : s.endProbe d = State.advanceSweep 4 (s.withEnded d (s.probe.capture d)) := by
      simp [State.endProbe, Capture.finish, rings, State.withEnded]
    exact finished ▸ live_running _ running
  · have accepted : (s.probe.capture d).accepts time = true := by
      simp [Capture.accepts, rings, pulse, last, Config.markGuard]
    have marked : s.ringMark d time =
        State.advanceSweep 4 (s.withEnded d { s.probe.capture d with lastMark := time, marks := 63, cycleEnd := time }) := by
      simp [State.ringMark, accepted, Capture.mark, marks, Config.fullCount, State.withEnded]
    exact marked ▸ live_running _ running

theorem State.withEnded_pairEnded (partner : (s.probe.capture (1 - d)).phase = .ended) :
    (s.withEnded d ended).probe.pairEnded = true :=
  (Probe.pairEnded_iff _ d).2 ⟨by simp [State.withEnded], by simpa [State.withEnded] using partner⟩

/-- R3, R4: ring count and ring period are those of the marks. -/
theorem State.withEnded_capture (s : State) (d e : Fin 2) (ended : Capture) :
    ((s.withEnded d ended).probe.capture e).ringCount = (if e = d then ended else s.probe.capture e).ringCount ∧
      ((s.withEnded d ended).probe.capture e).ringPeriod = (if e = d then ended else s.probe.capture e).ringPeriod := by
  unfold State.withEnded
  by_cases same : e = d
  · subst same
    rw [if_pos rfl, Probe.capture_setCapture]
    exact ⟨rfl, rfl⟩
  · obtain rfl : e = 1 - d := by omega
    rw [if_neg same, Probe.capture_setCapture_other]
    exact ⟨rfl, rfl⟩

/-! ### The completion -/

/-- R15: the tag of the coil's fragment. -/
theorem State.tagOfCoil_eq (s : State) (i : CoilIx) :
    s.tagOfCoil i = (s.tracker.pans.find? fun f => decide (i ∈ f.coils)).map fun f => f.tag := by
  simp [State.tagOfCoil]

/-- The state the results of the completed pair make. -/
def State.pairTaken (s : State) (d : Fin 2) (p : Fin 4) (ended : Capture) : State := (s.withEnded d ended).takePair p

theorem State.pairTaken_own {e : Fin 2} {i : CoilIx} (hi : i = detectorCoil p e) (fitted : (s.coils.get i).fitted = true) :
    let result := if e = d then ended else s.probe.capture e
    let t := s.pairTaken d p ended
    (t.coils.get i).coverage = probeCoverage (s.setup.coils.get i) result.ringCount ∧
      (t.coils.get i).floor = probeFloor (s.setup.coils.get i) result.ringPeriod ∧
      (t.coils.get i).liftSuspected = false ∧
      (t.coils.get i).presence =
        nextPresence (judgesMaterial (s.coils.get i))
          (materialPasses (s.setup.coils.get i) result.ringPeriod) (s.coils.get i).presence
          (probeCoverage (s.setup.coils.get i) result.ringCount) := by
  intro result t
  obtain ⟨count, period⟩ := s.withEnded_capture d e ended
  have own : t.coils.get i =
      { takeResult (s.setup.coils.get i) result.ringCount result.ringPeriod (s.coils.get i) with
        heating := (t.coils.get i).heating } := by
    have h := (s.withEnded d ended).takePair_own p e
    rw [← hi] at h
    unfold State.resultOf at h
    rw [if_pos (by exact fitted), count, period] at h
    exact h
  rw [own]
  exact ⟨rfl, rfl, rfl, rfl⟩

theorem State.pairTaken_other {i : CoilIx} (h : (∀ e, i ≠ detectorCoil p e) ∨ (s.coils.get i).fitted = false) :
    (s.pairTaken d p ended).coils.get i =
      { s.coils.get i with heating := ((s.pairTaken d p ended).coils.get i).heating } :=
  (s.withEnded d ended).takePair_other h

theorem State.pairTaken_frequency (quiet : s.Quiet) :
    (s.pairTaken d p ended).drive.frequency =
      max s.drive.frequency
        (max
          (if (s.coils.get (detectorCoil p 0)).fitted = true ∧ (s.coils.get (detectorCoil p 0)).heating = true then
            ((s.pairTaken d p ended).coils.get (detectorCoil p 0)).floor else 0)
          (if (s.coils.get (detectorCoil p 1)).fitted = true ∧ (s.coils.get (detectorCoil p 1)).heating = true then
            ((s.pairTaken d p ended).coils.get (detectorCoil p 1)).floor else 0)) :=
  State.takeTwo_frequency (s := s.withEnded d ended) quiet (firstCoil_ne_secondCoil p) _ _

theorem State.pairTaken_density (quiet : s.Quiet) (i : CoilIx) :
    (s.pairTaken d p ended).drive.density.get i =
      if undrivable (coilState ((s.pairTaken d p ended).coils.get i)) = true then 0 else s.drive.density.get i :=
  State.takeTwo_density (s := s.withEnded d ended) quiet (firstCoil_ne_secondCoil p) _ _ i

theorem State.pairTaken_link (s : State) (d : Fin 2) (p : Fin 4) (ended : Capture) :
    (s.pairTaken d p ended).link =
      s.askedUnsuitable (detectorCoil p 1) ((s.pairTaken d p ended).coils.get (detectorCoil p 1)).presence
        (s.askedUnsuitable (detectorCoil p 0) ((s.pairTaken d p ended).coils.get (detectorCoil p 0)).presence s.link) :=
  (s.withEnded d ended).takeTwo_link (firstCoil_ne_secondCoil p) _ _

theorem State.pairTaken_frame (s : State) (d : Fin 2) (p : Fin 4) (ended : Capture) :
    s.pairTaken d p ended =
      { s with
        probe := (s.pairTaken d p ended).probe
        coils := (s.pairTaken d p ended).coils, drive := (s.pairTaken d p ended).drive, sense := (s.pairTaken d p ended).sense,
        link :=
          { s.link with queue := (s.pairTaken d p ended).link.queue, dropped := (s.pairTaken d p ended).link.dropped } } := by
  have h := (s.withEnded d ended).takePair_frame p
  unfold State.pairTaken
  generalize (s.withEnded d ended).takePair p = v at h ⊢
  rw [h]
  rfl

theorem State.pairTaken_fitted (s : State) (d : Fin 2) (p : Fin 4) (ended : Capture) (i : CoilIx) :
    ((s.pairTaken d p ended).coils.get i).fitted = (s.coils.get i).fitted := by
  have h := (s.withEnded d ended).takeTwo_coil (firstCoil_ne_secondCoil p) (s.withEnded d ended).probe.unit0
    (s.withEnded d ended).probe.unit1 i
  have taken (j : CoilIx) (c : Capture) : ((s.withEnded d ended).resultOf j c).fitted = (s.coils.get j).fitted := by
    unfold State.resultOf
    split_ifs <;> rfl
  refine (congrArg Coil.fitted h).trans ?_
  dsimp only
  split_ifs with first second
  · rw [taken, first]
  · rw [taken, second]
  · rfl

/-- R1: a later pair is the next one exactly where it has a fitted coil and none between has. -/
theorem State.pairTaken_pairFitted (s : State) (d : Fin 2) (p : Fin 4) (ended : Capture) (q : Fin 4) :
    (s.pairTaken d p ended).PairFitted q ↔ s.PairFitted q := by
  simp only [State.PairFitted, State.pairTaken_fitted]

/-- R25: the update at the end of the sweep reads the tables of `s` and the records the pair has left. -/
theorem State.pairTaken_trackedFrom (s : State) (d : Fin 2) (p : Fin 4) (ended : Capture) (x : Probe) :
    s.TrackedFrom { s.pairTaken d p ended with probe := x }.completeSweep (s.pairTaken d p ended).link := by
  have tracked := ({ s.pairTaken d p ended with probe := x } : State).abortSweep.trackingUpdate_trackedFrom
  have frame := s.pairTaken_frame d p ended
  generalize s.pairTaken d p ended = v at tracked frame ⊢
  refine State.TrackedFrom.of_frame (coils := v.coils)
    (probe := { x with sweep := none, unit0 := Capture.off, unit1 := Capture.off }) (drive := v.drive) (sense := v.sense)
    (queue := v.link.queue) (dropped := v.link.dropped) ?_
  have same : ({ v with probe := x } : State).abortSweep =
      { s with
        coils := v.coils, probe := { x with sweep := none, unit0 := Capture.off, unit1 := Capture.off }, drive := v.drive,
        sense := v.sense, link := { s.link with queue := v.link.queue, dropped := v.link.dropped } } := by
    rw [frame]
    rfl
  exact same ▸ tracked

end Sys2Proof.Machine

/-! PROOFS. O20, assembled. -/

namespace Sys2Proof.Machine

open Sys2Proof

variable {s t : State} {d : Fin 2} {p : Fin 4} {ended : Capture}

/-- R5: what follows the results of the completed pair: the next fitted pair, or the tracking update. -/
theorem State.pairTaken_goesOn (s : State) (d : Fin 2) (p : Fin 4) (ended : Capture) :
    (∃ q, p < q ∧ s.PairFitted q ∧ (∀ r, p < r → r < q → ¬ s.PairFitted r) ∧
      State.passOn 3 p (s.pairTaken d p ended) = (s.pairTaken d p ended).startPair q) ∨
      (∀ q, p < q → ¬ s.PairFitted q) ∧
        ∃ x, State.passOn 3 p (s.pairTaken d p ended) = { s.pairTaken d p ended with probe := x }.completeSweep := by
  have cases := State.passOn_cases 3 p (s.pairTaken d p ended) (by omega)
  simpa only [State.pairTaken_pairFitted] using cases

/-- R5: both ends keep what the results have made but for what a tracking update withdraws. -/
theorem State.passOn_completed (s : State) (d : Fin 2) (p : Fin 4) (ended : Capture) :
    (s.pairTaken d p ended).Completed (State.passOn 3 p (s.pairTaken d p ended)) := by
  rcases s.pairTaken_goesOn d p ended with ⟨q, -, -, -, eq⟩ | ⟨-, x, eq⟩ <;> rw [eq]
  · exact State.startPair_completed _ q
  · exact State.completeSweep_completed _ x

section Completed

variable (completed : (s.pairTaken d p ended).Completed t)
include completed

theorem State.Completed.own {e : Fin 2} {i : CoilIx} (hi : i = detectorCoil p e) (fitted : (s.coils.get i).fitted = true) :
    let result := if e = d then ended else s.probe.capture e
    (t.coils.get i).coverage = probeCoverage (s.setup.coils.get i) result.ringCount ∧
      (t.coils.get i).floor = probeFloor (s.setup.coils.get i) result.ringPeriod ∧
      (t.coils.get i).liftSuspected = false ∧
      (t.coils.get i).presence =
        nextPresence (judgesMaterial (s.coils.get i))
          (materialPasses (s.setup.coils.get i) result.ringPeriod) (s.coils.get i).presence
          (probeCoverage (s.setup.coils.get i) result.ringCount) := by
  rw [completed.coils i]
  exact State.pairTaken_own hi fitted

theorem State.Completed.other {i : CoilIx} (h : (∀ e, i ≠ detectorCoil p e) ∨ (s.coils.get i).fitted = false) :
    t.coils.get i = { s.coils.get i with heating := (t.coils.get i).heating } := by
  have taken := State.pairTaken_other (d := d) (ended := ended) h
  have kept := completed.coils i
  rw [taken] at kept
  exact kept

theorem State.Completed.rises (quiet : s.Quiet) :
    let risen := fun i => if (s.coils.get i).fitted = true ∧ (s.coils.get i).heating = true then (t.coils.get i).floor else 0
    t.drive.frequency = max s.drive.frequency (max (risen (detectorCoil p 0)) (risen (detectorCoil p 1))) := by
  have floor (i : CoilIx) : (t.coils.get i).floor = ((s.pairTaken d p ended).coils.get i).floor := by rw [completed.coils i]
  simp only [floor]
  exact completed.frequency.trans (State.pairTaken_frequency quiet)

theorem State.Completed.withdraws (quiet : s.Quiet) (i : CoilIx) :
    t.drive.density.get i =
      if undrivable (coilState (t.coils.get i)) = true ∨ t.probe.sweep = none ∧ t.targeted i = false then 0
      else s.drive.density.get i := by
  have out : undrivable (coilState (t.coils.get i)) = undrivable (coilState ((s.pairTaken d p ended).coils.get i)) := by
    rw [completed.coils i, undrivable_withHeating]
  rw [completed.density i, State.pairTaken_density quiet, out]
  split_ifs <;> simp_all

end Completed

/-- The link before step 12, as the statement writes it: UNSUITABLE of both coils, where their presences ask for it. -/
theorem State.pairTaken_before (completed : (s.pairTaken d p ended).Completed t) :
    (let asked := fun i (l : Link) =>
        let tag := (s.tracker.pans.find? fun f => decide (i ∈ f.coils)).map fun f => f.tag
        if (s.coils.get i).presence ≠ .nonferrous ∧ (t.coils.get i).presence = .nonferrous ∧ s.sup.state ≠ .silent then
          l.hand (.notice tag .unsuitable) s.setup.noticeLevel (encodeNotice tag .unsuitable i.val)
        else l
    asked (detectorCoil p 1) (asked (detectorCoil p 0) s.link)) = (s.pairTaken d p ended).link := by
  have presence (i : CoilIx) : (t.coils.get i).presence = ((s.pairTaken d p ended).coils.get i).presence := by
    rw [completed.coils i]
  simp only [presence, ← State.tagOfCoil_eq]
  exact (s.pairTaken_link d p ended).symm

theorem State.pairTaken_tracker (s : State) (d : Fin 2) (p : Fin 4) (ended : Capture) :
    (s.pairTaken d p ended).tracker = s.tracker := by rw [State.pairTaken_frame]

theorem startCapture_eq (fitted : Bool) :
    startCapture fitted = { Capture.off with phase := if fitted = true then .pulse else .ended } := rfl

/-- R1: where a later pair has a fitted coil the next such pair is in flight. -/
theorem State.passOn_next {q : Fin 4} (hq : p < q) (fitted : s.PairFitted q) (between : ∀ r, p < r → r < q → ¬ s.PairFitted r) :
    State.passOn 3 p (s.pairTaken d p ended) = (s.pairTaken d p ended).startPair q := by
  rcases s.pairTaken_goesOn d p ended with ⟨r, hr, held, none, eq⟩ | ⟨none, -⟩
  · rcases lt_trichotomy q r with lower | rfl | higher
    · exact absurd fitted (none q hq lower)
    · exact eq
    · exact absurd held (between r hr higher)
  · exact absurd fitted (none q hq)

/-- R5: where none has the sweep is complete. -/
theorem State.passOn_last (none : ∀ q, p < q → ¬ s.PairFitted q) :
    ∃ x, State.passOn 3 p (s.pairTaken d p ended) = { s.pairTaken d p ended with probe := x }.completeSweep := by
  rcases s.pairTaken_goesOn d p ended with ⟨q, hq, fitted, -⟩ | ⟨-, x, eq⟩
  · exact absurd fitted (none q hq)
  · exact ⟨x, eq⟩

/-- Settles O20: the completion by `State.passOn_cases`, the update by `State.trackingUpdate_trackedFrom`, and its steps one by one. -/
theorem pairCompletionWritesTheRecords : Obligations.PairCompletionWritesTheRecords := by
  refine ⟨fun d p s running sweep rings partner c ended ends => ?_, neighbourEdge_edgeTagged, resumeOne_resumedTo,
    newTagOne_newTagTo, fun position coils peers c own tag => seniorityOf_seniorTo position coils peers tag,
    fun coils previous comps f hf => joinByTag_joinedFrom hf,
    fun coils previous comps => ⟨(joinByTag_tags coils previous [] comps).1, fun c hc tag held => joinByTag_holds hc held⟩⟩
  have completed := s.passOn_completed d p ended
  have advanced : State.advanceSweep 4 (s.withEnded d ended) = State.passOn 3 p (s.pairTaken d p ended) :=
    State.advanceSweep_ended (by simpa [State.withEnded] using sweep) (State.withEnded_pairEnded partner)
  refine ⟨State.passOn 3 p (s.pairTaken d p ended), advanced ▸ exec_ends running rings ends, fun e i hi fitted => completed.own hi fitted,
    fun i h => completed.other h, fun quiet => ⟨completed.rises quiet, completed.withdraws quiet⟩, ?_⟩
  intro asked before
  have link : before = (s.pairTaken d p ended).link := State.pairTaken_before completed
  refine ⟨fun q hq fitted between => ?_, fun none => ?_⟩
  · rw [State.passOn_next hq fitted fun r hpr hrq => State.not_pairFitted.2 (between r hpr hrq), link]
    simp only [State.startPair, State.pairTaken_fitted, startCapture_eq, State.pairTaken_tracker, and_self]
  · obtain ⟨x, eq⟩ := State.passOn_last (d := d) (ended := ended) fun q hq => State.not_pairFitted.2 (none q hq)
    rw [eq, link]
    exact ⟨State.completeSweep_sweep _, s.pairTaken_trackedFrom d p ended x⟩

end Sys2Proof.Machine
